-- ==== Sys2Proof/Word.lean ====
section
/-! DEFINITION. Word.lean: the bus and register types of `30_encoding.md` R60, R62, R66, R70 and `10_state.md`
R22 to R24. Bit 0 is the least significant bit (`00_scope.md` R8). -/

namespace Sys2Proof

/-- The command word on `cmd` (R62). -/
abbrev CommandWord := BitVec 36

/-- `cmd[35:32]` (R62). -/
abbrev Op := BitVec 4

/-- `cmd[31:0]` (R62). -/
abbrev Arg := BitVec 32

/-- The response word on `rsp` (R66). -/
abbrev ResponseWord := BitVec 34

/-- FREQ: millihertz, two's complement (R22). -/
abbrev Freq := BitVec 32

/-- INC: counts per tick, unsigned (R23). -/
abbrev Inc := BitVec 18

/-- PHASE: counts, unsigned (R24). -/
abbrev Phase := BitVec 19

/-- What an operation's encoding is: a word on the command port (format C, R62) or the bit of the tick input
(format T, R70). -/
inductive PortWord where
  /-- Format C, the command port. -/
  | command (w : CommandWord)
  /-- Format T, the tick input. -/
  | tick (b : BitVec 1)
deriving DecidableEq, Repr

end Sys2Proof
end

