-- ==== Sys2Proof/Syntax.lean ====
section
/-! DEFINITION. Syntax.lean: the operations, one constructor per row of `spec/opcode_table.json`. A constructor carries
every bit of its row's encoding that the row leaves free, ignored ones too (`30_encoding.md` R63), so that a word is
its operation and back (log 8). -/

namespace Sys2Proof

/-- The operation set: the six operations of `00_scope.md` R1 and the three reserved rows of `30_encoding.md` R65. -/
inductive Instr where
  /-- SETF, `SetFrequency(hz)`: `arg` is the frequency in millihertz (R120). -/
  | setf (arg : Arg)
  /-- START, `Start()`: `arg` is ignored (R121). -/
  | start (arg : Arg)
  /-- STOP, `Stop()`: `arg` is ignored (R122). -/
  | stop (arg : Arg)
  /-- GETF, `GetFrequency()`: `arg` is ignored (R123). -/
  | getf (arg : Arg)
  /-- ISRUN, `IsRunning()`: `arg` is ignored (R124). -/
  | isrun (arg : Arg)
  /-- UPDATE, `Update()`, the tick input (R125). -/
  | update
  /-- Reserved `op` 0x0 (R126). -/
  | illegalOp0 (arg : Arg)
  /-- Reserved `op` 0x6 and 0x7 (R126). -/
  | illegalOp6To7 (op : Op) (arg : Arg)
  /-- Reserved `op` 0x8 to 0xF (R126). -/
  | illegalOp8To15 (op : Op) (arg : Arg)
deriving DecidableEq, Repr

end Sys2Proof
end

