-- ==== Sys2Proof/WellFormed.lean ====
section
/-! DEFINITION. WellFormed.lean: which terms of `Instr` are operations of the table: a reserved row's `op` lies in the
row's range (`30_encoding.md` R65). Every other field admits every value (R63). -/

namespace Sys2Proof

/-- The row ILLEGAL_OP6_7 holds `op` 0x6 and 0x7: `op[3:1]` = 3 (R65). -/
def opIn6To7 (op : Op) : Bool := op == 0x6#4 || op == 0x7#4

/-- The row ILLEGAL_OP8_15 holds `op` 0x8 to 0xF: bit 3 is set (R65). -/
def opIn8To15 (op : Op) : Bool := op.msb

/-- The term is an operation of the opcode table. -/
def Instr.wellFormed : Instr → Bool
  | .setf _ => true
  | .start _ => true
  | .stop _ => true
  | .getf _ => true
  | .isrun _ => true
  | .update => true
  | .illegalOp0 _ => true
  | .illegalOp6To7 op _ => opIn6To7 op
  | .illegalOp8To15 op _ => opIn8To15 op

end Sys2Proof
end

