-- ==== Sys2Proof/Decode.lean ====
section
/-! DEFINITION. Decode.lean: the decoder (`30_encoding.md` R62, R64, R65, R70, R73) and, after it, the encoder, from the
same tables. Decoding depends on no state (R73). -/

namespace Sys2Proof

/-- Why bits presented to the decoder are no operation. -/
inductive DecodeError where
  /-- `tick` = 0: "`tick` = 0 is no call" (R70). -/
  | noCall
  /-- The bits do not fit the port: bit 36 or above on the command port, bit 1 or above on the tick input, or a word
  shorter than the command port's one format (R62, R73). -/
  | notOnPort
deriving DecidableEq, Repr

/-- `op = cmd[35:32]` (R62). -/
def commandOp (w : CommandWord) : Op := w.extractLsb' 32 4

/-- `arg = cmd[31:0]` (R62). -/
def commandArg (w : CommandWord) : Arg := w.extractLsb' 0 32

/-- The operation with this `op` and this `arg`: the opcode map R64, the reserved values R65. -/
def decodeFields (op : Op) (arg : Arg) : Instr :=
  if op = 0x1#4 then .setf arg
  else if op = 0x2#4 then .start arg
  else if op = 0x3#4 then .stop arg
  else if op = 0x4#4 then .getf arg
  else if op = 0x5#4 then .isrun arg
  else if op = 0x0#4 then .illegalOp0 arg
  else if opIn6To7 op then .illegalOp6To7 op arg
  else .illegalOp8To15 op arg

/-- The command port's decoder, total on every 36-bit word (R64, R65). -/
def decodeCommand (w : CommandWord) : Instr := decodeFields (commandOp w) (commandArg w)

/-- The tick input's decoder: 1 is one call of `Update()`, 0 is no call (R70). -/
def decodeTick (b : BitVec 1) : Except DecodeError Instr :=
  if b = 1#1 then .ok .update else .error .noCall

/-- The decoder over both ports. -/
def decode : PortWord → Except DecodeError Instr
  | .command w => .ok (decodeCommand w)
  | .tick b => decodeTick b

/-- Which port `nbits` bits belong to, and the word on it. The only widths of the table are 36 (format C) and 1 (format
T), here in whole bytes or bare: up to 8 bits is the tick input, 36 to 40 the command port (log 9). -/
def portWord (nbits w : Nat) : Except DecodeError PortWord :=
  if nbits ≤ 8 then
    if w < 2 then .ok (.tick (BitVec.ofNat 1 w)) else .error .notOnPort
  else if 36 ≤ nbits ∧ nbits ≤ 40 ∧ w < 2 ^ 36 then .ok (.command (BitVec.ofNat 36 w))
  else .error .notOnPort

/-- The operation whose `nbits` bits are `w`, or the named reason there is none. -/
def decodeBits (nbits w : Nat) : Except DecodeError Instr :=
  match portWord nbits w with
  | .ok p => decode p
  | .error e => .error e

/-- The host's reading of one row of the opcode table. -/
def decodeTableWord (nbits w : Nat) : Option Instr :=
  match decodeBits nbits w with
  | .ok i => some i
  | .error _ => none

/-- The command word `{op, arg}` (R62). -/
def commandWord (op : Op) (arg : Arg) : CommandWord := op ++ arg

/-- The encoder: the word of an operation on its port (R64, R65, R70). -/
def encode : Instr → PortWord
  | .setf arg => .command (commandWord 0x1#4 arg)
  | .start arg => .command (commandWord 0x2#4 arg)
  | .stop arg => .command (commandWord 0x3#4 arg)
  | .getf arg => .command (commandWord 0x4#4 arg)
  | .isrun arg => .command (commandWord 0x5#4 arg)
  | .update => .tick 1#1
  | .illegalOp0 arg => .command (commandWord 0x0#4 arg)
  | .illegalOp6To7 op arg => .command (commandWord op arg)
  | .illegalOp8To15 op arg => .command (commandWord op arg)

/-- One row of the command port's part of the opcode table, as match and mask over the 36-bit word (R64, R65). -/
structure OpcodeRow where
  /-- The row's mnemonic in `spec/opcode_table.json`. -/
  mnemonic : String
  /-- The bits the row fixes. -/
  mask : CommandWord
  /-- Their values. -/
  pattern : CommandWord
deriving DecidableEq, Repr

/-- The word has the row's fixed bits. -/
def OpcodeRow.hasWord (r : OpcodeRow) (w : CommandWord) : Bool := w &&& r.mask == r.pattern

/-- The eight rows of the command port (R64, R65). -/
def opcodeRows : List OpcodeRow :=
  [⟨"SETF", 0xF00000000#36, 0x100000000#36⟩,
   ⟨"START", 0xF00000000#36, 0x200000000#36⟩,
   ⟨"STOP", 0xF00000000#36, 0x300000000#36⟩,
   ⟨"GETF", 0xF00000000#36, 0x400000000#36⟩,
   ⟨"ISRUN", 0xF00000000#36, 0x500000000#36⟩,
   ⟨"ILLEGAL_OP0", 0xF00000000#36, 0x000000000#36⟩,
   ⟨"ILLEGAL_OP6_7", 0xE00000000#36, 0x600000000#36⟩,
   ⟨"ILLEGAL_OP8_15", 0x800000000#36, 0x800000000#36⟩]

/-- The mnemonic of an operation's row in `spec/opcode_table.json`. -/
def Instr.mnemonic : Instr → String
  | .setf _ => "SETF"
  | .start _ => "START"
  | .stop _ => "STOP"
  | .getf _ => "GETF"
  | .isrun _ => "ISRUN"
  | .update => "UPDATE"
  | .illegalOp0 _ => "ILLEGAL_OP0"
  | .illegalOp6To7 _ _ => "ILLEGAL_OP6_7"
  | .illegalOp8To15 _ _ => "ILLEGAL_OP8_15"

end Sys2Proof
end

