-- ==== Sys2Proof/Config.lean ====
section
/-! DEFINITION. Config.lean: the implementation parameters (`00_scope.md` R5), what a machine keeps of them, the table
of `20_memory.md` R42, and the free values: opaque constants about which nothing can be proved. -/

namespace Sys2Proof.Config

/-! ## The parameters R5 fixes -/

/-- TABLE_SIZE, entries of the sine table. -/
def tableSize : Nat := 360

/-- TICK_HZ, the rate of `Update` calls (1/s). -/
def tickHz : Nat := 100

/-- FREQ_MIN, millihertz. -/
def freqMin : Int := 100

/-- FREQ_MAX, millihertz. -/
def freqMax : Int := 50000

/-- FREQ_DEFAULT, millihertz. -/
def freqDefault : Int := 10000

/-- BOOST_KNEE, millihertz. -/
def boostKnee : Int := 10000

/-- PHASE_MOD = 3 · 1000 · TICK_HZ counts per electrical turn. -/
def phaseMod : Nat := 300000

/-- OFF_V, a third of a turn in counts. -/
def offsetV : Nat := 100000

/-- OFF_W, two thirds of a turn in counts. -/
def offsetW : Nat := 200000

/-- Counts per tick of one millihertz: INC = 3 · FREQ (`10_state.md` R23). -/
def countsPerMilliHertz : Nat := 3

/-- DUTY_W: the smallest w with 2^w > DUTY_MAX (R5). -/
def dutyWidth (dutyMax : Nat) : Nat := if dutyMax = 0 then 0 else dutyMax.log2 + 1

/-! ## The free values -/

/-- CARRIER_HZ: OPEN, no default, unsigned 32-bit hertz (R5, `92_eei_decisions.md` D12). Free value, log 4. -/
opaque carrierHz : BitVec 32

/-- What Lookup returns for a phase count of a turn or more: "Lookup is not defined for P ≥ 300000"
(`40_sine_lookup.md` R81 (e)), and a total function "may return any value there" (`20_memory.md` R47). Free value,
log 6. -/
opaque lookupBeyondTurn : Nat → Nat

/-! ## The sine table -/

/-- The type of the sine table ROM: one entry per index (R40). -/
abbrev SineTable := Vector Nat 360

/-- Entries 0 to 59 of the table of R42. -/
def sineDegrees0 : List Nat :=
  [500, 509, 517, 526, 535, 544, 552, 561, 570, 578,
   587, 595, 604, 612, 621, 629, 638, 646, 655, 663,
   671, 679, 687, 695, 703, 711, 719, 727, 735, 742,
   750, 758, 765, 772, 780, 787, 794, 801, 808, 815,
   821, 828, 835, 841, 847, 854, 860, 866, 872, 877,
   883, 889, 894, 899, 905, 910, 915, 919, 924, 929]

/-- Entries 60 to 119 of the table of R42. -/
def sineDegrees60 : List Nat :=
  [933, 937, 941, 946, 949, 953, 957, 960, 964, 967,
   970, 973, 976, 978, 981, 983, 985, 987, 989, 991,
   992, 994, 995, 996, 997, 998, 999, 999, 1000, 1000,
   1000, 1000, 1000, 999, 999, 998, 997, 996, 995, 994,
   992, 991, 989, 987, 985, 983, 981, 978, 976, 973,
   970, 967, 964, 960, 957, 953, 949, 946, 941, 937]

/-- Entries 120 to 179 of the table of R42. -/
def sineDegrees120 : List Nat :=
  [933, 929, 924, 919, 915, 910, 905, 899, 894, 889,
   883, 877, 872, 866, 860, 854, 847, 841, 835, 828,
   821, 815, 808, 801, 794, 787, 780, 772, 765, 758,
   750, 742, 735, 727, 719, 711, 703, 695, 687, 679,
   671, 663, 655, 646, 638, 629, 621, 612, 604, 595,
   587, 578, 570, 561, 552, 544, 535, 526, 517, 509]

/-- Entries 180 to 239 of the table of R42. -/
def sineDegrees180 : List Nat :=
  [500, 491, 483, 474, 465, 456, 448, 439, 430, 422,
   413, 405, 396, 388, 379, 371, 362, 354, 345, 337,
   329, 321, 313, 305, 297, 289, 281, 273, 265, 258,
   250, 242, 235, 228, 220, 213, 206, 199, 192, 185,
   179, 172, 165, 159, 153, 146, 140, 134, 128, 123,
   117, 111, 106, 101, 95, 90, 85, 81, 76, 71]

/-- Entries 240 to 299 of the table of R42. -/
def sineDegrees240 : List Nat :=
  [67, 63, 59, 54, 51, 47, 43, 40, 36, 33,
   30, 27, 24, 22, 19, 17, 15, 13, 11, 9,
   8, 6, 5, 4, 3, 2, 1, 1, 0, 0,
   0, 0, 0, 1, 1, 2, 3, 4, 5, 6,
   8, 9, 11, 13, 15, 17, 19, 22, 24, 27,
   30, 33, 36, 40, 43, 47, 51, 54, 59, 63]

/-- Entries 300 to 359 of the table of R42. -/
def sineDegrees300 : List Nat :=
  [67, 71, 76, 81, 85, 90, 95, 101, 106, 111,
   117, 123, 128, 134, 140, 146, 153, 159, 165, 172,
   179, 185, 192, 199, 206, 213, 220, 228, 235, 242,
   250, 258, 265, 273, 281, 289, 297, 305, 313, 321,
   329, 337, 345, 354, 362, 371, 379, 388, 396, 405,
   413, 422, 430, 439, 448, 456, 465, 474, 483, 491]

/-- All 360 entries, index 0 first (R42). -/
def sineDegrees : List Nat :=
  sineDegrees0 ++ sineDegrees60 ++ sineDegrees120 ++ sineDegrees180 ++ sineDegrees240 ++ sineDegrees300

/-- The table for DUTY_MAX = 1000 (R42). -/
def sineTable1000 : SineTable := ⟨sineDegrees.toArray, by decide +kernel⟩

/-! ## What a machine keeps of its parameters -/

/-- The OPEN parameters of an elaborated machine: constants for its lifetime, which no operation writes (R5,
`10_state.md` R26, `20_memory.md` R45; log 3). -/
structure Params where
  /-- DUTY_MAX, the largest duty value. -/
  dutyMax : Nat
  /-- BOOST = BOOST_PERCENT (`10_state.md` R26). -/
  boostPercent : Nat
  /-- CARRIER_HZ, the value passed once to `SetCarrierFrequency`. -/
  carrierHz : BitVec 32
  /-- The sine table ROM (`20_memory.md` R40, R41). -/
  table : SineTable
deriving DecidableEq, Repr

/-- The defaults of R5: DUTY_MAX = 1000 with the table of R42, BOOST_PERCENT = 10; CARRIER_HZ has no default. -/
def defaultParams : Params where
  dutyMax := 1000
  boostPercent := 10
  carrierHz := carrierHz
  table := sineTable1000

/-- A parameter set as it is asked for at elaboration: every parameter of R5 that a rule reads. -/
structure ParamSet where
  /-- TABLE_SIZE. -/
  tableSize : Nat
  /-- TICK_HZ. -/
  tickHz : Nat
  /-- FREQ_MIN, millihertz. -/
  freqMin : Int
  /-- FREQ_MAX, millihertz. -/
  freqMax : Int
  /-- FREQ_DEFAULT, millihertz. -/
  freqDefault : Int
  /-- DUTY_MAX. -/
  dutyMax : Nat
  /-- BOOST_PERCENT. -/
  boostPercent : Int
  /-- CARRIER_HZ. -/
  carrierHz : BitVec 32
  /-- The table supplied with DUTY_MAX (`20_memory.md` R41), index 0 first. -/
  table : List Nat
deriving DecidableEq, Repr

/-- The set of R5's spec values. -/
def defaultParamSet : ParamSet where
  tableSize := tableSize
  tickHz := tickHz
  freqMin := freqMin
  freqMax := freqMax
  freqDefault := freqDefault
  dutyMax := 1000
  boostPercent := 10
  carrierHz := carrierHz
  table := sineDegrees

/-- Why a parameter set is refused: at elaboration, never at run time (R6). -/
inductive ParamRefusal where
  /-- TABLE_SIZE is not 360 (R6). -/
  | tableSize
  /-- TICK_HZ is not 100 (R6). -/
  | tickHz
  /-- DUTY_MAX is no multiple of 4 or lies outside [4, 65532] (R6). -/
  | dutyMax
  /-- BOOST_PERCENT lies outside [0, 20] (R6). -/
  | boostPercent
  /-- 3 · FREQ_MAX ≥ PHASE_MOD: the single-wrap condition fails (R6, `42_phase_accumulator.md` R102). -/
  | singleWrap
  /-- FREQ_MIN > FREQ_DEFAULT or FREQ_DEFAULT > FREQ_MAX: the reset frequency is not legal (R6). -/
  | resetFrequency
  /-- FREQ_MIN, FREQ_MAX or FREQ_DEFAULT is not R5's: the rules of the operations are stated for those (log 10). -/
  | frequencyConstants
  /-- The table has not 360 entries or breaks `20_memory.md` R41 or R43 (log 10). -/
  | table
deriving DecidableEq, Repr

end Sys2Proof.Config
end

