-- ==== Sys2Proof/Machine/State.lean ====
section
/-! DEFINITION. State.lean: the state of `10_state.md`, the ports of `30_encoding.md` R60, the reasons a step can stop,
and the machine after reset (R31). -/

namespace Sys2Proof.Machine

/-! ## What the core emits -/

/-- A command to the PWM driver (`30_encoding.md` R68, R69). -/
inductive DriverCmd where
  /-- `SetCarrierFrequency(hz)`. -/
  | setCarrierFrequency (hz : BitVec 32)
  /-- `SetOutputs(u, v, w)`: the duty triple, applied atomically. -/
  | setOutputs (u v w : Nat)
  /-- `Enable()`. -/
  | enable
  /-- `Disable()`. -/
  | disable
deriving DecidableEq, Repr

/-- The status of a response (`30_encoding.md` R67, `60_exceptions.md` R140). -/
inductive Status where
  /-- 0, every successful operation. -/
  | ok
  /-- 1, SETF with an out-of-range argument (R141). -/
  | invalidFrequency
  /-- 2, a reserved `op` (R142). -/
  | illegalCommand
deriving DecidableEq, Repr

/-- A response: format R (`30_encoding.md` R66). -/
structure Response where
  /-- Bits 33:32. -/
  status : Status
  /-- Bits 31:0. -/
  data : BitVec 32
deriving DecidableEq, Repr

/-- One element of the output trace (`00_scope.md` R11). -/
inductive Output where
  /-- A driver command. -/
  | driver (c : DriverCmd)
  /-- The response to a command. -/
  | response (r : Response)
deriving DecidableEq, Repr

/-! ## Ports -/

/-- The input ports at one rising edge of `clk` (`30_encoding.md` R60). -/
structure InPins where
  /-- Synchronous reset, active high. -/
  rst : Bool
  /-- One `Update` call this cycle. -/
  tick : Bool
  /-- A command word is presented this cycle. -/
  cmdValid : Bool
  /-- The command word. -/
  cmd : CommandWord
deriving DecidableEq, Repr

/-- A cycle in which nothing is presented. -/
def InPins.idle : InPins := ⟨false, false, false, 0#36⟩

/-- The output ports (`30_encoding.md` R60). A strobe with a payload is an `Option`: none is the strobe low, when its
payload buses carry no defined value (R61). -/
structure OutPins where
  /-- `rsp_valid` and `rsp`. -/
  rsp : Option ResponseWord
  /-- `pwm_carrier_set` and `pwm_carrier_hz`. -/
  carrier : Option (BitVec 32)
  /-- `pwm_set` and `pwm_duty_u`, `pwm_duty_v`, `pwm_duty_w`: one strobe for the triple (`20_memory.md` R48). -/
  duties : Option (Nat × Nat × Nat)
  /-- `pwm_enable`. -/
  enable : Bool
  /-- `pwm_disable`. -/
  disable : Bool
deriving DecidableEq, Repr

/-- Every strobe low. -/
def OutPins.idle : OutPins := ⟨none, none, none, false, false⟩

/-! ## State -/

/-- The state of the machine: the registers of `10_state.md`, the instance's constants, its ports, and the model's own
`inputs` and `trace`. -/
structure State where
  /-- FREQ (R22). -/
  freq : Freq
  /-- INC (R23). -/
  inc : Inc
  /-- PHASE (R24). -/
  phase : Phase
  /-- RUN (R25): true is Running. -/
  run : Bool
  /-- CARRIER_PENDING (R27). -/
  carrierPending : Bool
  /-- The constants of elaboration, BOOST (R26) and the sine table (`20_memory.md` R40) among them (log 3). -/
  cfg : Config.Params
  /-- What the output ports present for the last accepted edge (`30_encoding.md` R60, R61; log 2). -/
  pins : OutPins
  /-- The model's own field: the input cycles still to come, oldest first; past its end every cycle is idle (log 1). -/
  inputs : List InPins
  /-- The model's own field: the output trace so far, oldest first (`00_scope.md` R11; log 2). -/
  trace : List Output
deriving DecidableEq, Repr

/-- Why a step stops with a fault: never. The step is total, "never stuck, never undefined, never a hang", and "the
hardware never stops itself" (`60_exceptions.md` R143), so there is no constructor (log 15). Both errors of R140 are
responses and lead to a next state. -/
inductive Fault
deriving DecidableEq, Repr

/-- Why a step has no meaning. -/
inductive Refusal where
  /-- The host's name for an arm of `exec` without a meaning. No arm answers it: raised by no one. Safe. -/
  | notModelled (mnemonic : String)
deriving DecidableEq, Repr

/-- The reset state R31 of a machine elaborated with these constants. The ports' and the model's own fields start
empty. -/
def State.resetWith (p : Config.Params) : State where
  freq := 10000#32
  inc := 30000#18
  phase := 0#19
  run := false
  carrierPending := true
  cfg := p
  pins := OutPins.idle
  inputs := []
  trace := []

/-- The machine right after reset, with R5's parameters. -/
def State.reset : State := State.resetWith Config.defaultParams

end Sys2Proof.Machine
end

