-- ==== Sys2Proof/Machine/Flags.lean ====
section
/-! DEFINITION. Flags.lean: there are no condition codes (`10_state.md` R30). The flag-like state is RUN, as the word
ISRUN returns; the per-operation status is the field of the response (`30_encoding.md` R66, R67). -/

namespace Sys2Proof.Machine

/-- `zext_32(RUN)`: 1 Running, 0 Stopped (`44_controller_commands.md` R124). -/
def runWord (run : Bool) : BitVec 32 := if run then 1#32 else 0#32

/-- The status codes (R67); 3 is never produced. -/
def Status.code : Status → BitVec 2
  | .ok => 0#2
  | .invalidFrequency => 1#2
  | .illegalCommand => 2#2

/-- The response word: `status` in 33:32, `data` in 31:0 (R66). -/
def Response.word (r : Response) : ResponseWord := r.status.code ++ r.data

end Sys2Proof.Machine
end

