-- ==== Sys2Proof/Machine/Operands.lean ====
section
/-! DEFINITION. Operands.lean: operand assembly (`30_encoding.md` R63). SETF's argument is the one operand of the
operation set; "there is no other immediate". -/

namespace Sys2Proof.Machine

/-- F = `sext_32(arg)`, a signed count of millihertz (R63). -/
def frequencyArg (arg : Arg) : Int := arg.toInt

/-- SETF's range check: FREQ_MIN ≤ F ≤ FREQ_MAX, both bounds legal (R120). -/
def frequencyInRange (f : Int) : Bool := decide (Config.freqMin ≤ f) && decide (f ≤ Config.freqMax)

/-- INC = 3 · FREQ, 18 bits (`10_state.md` R23). -/
def incrementOf (f : Freq) : Inc := BitVec.ofNat 18 (Config.countsPerMilliHertz * f.toNat)

/-- FREQ read as two's complement millihertz (`10_state.md` R22). -/
def frequencyOf (f : Freq) : Int := f.toInt

end Sys2Proof.Machine
end

