-- ==== Sys2Proof/Machine/Ops.lean ====
section
/-! DEFINITION. Ops.lean: the shared operations of the pseudocode (`00_scope.md` R9): register writes, `emit`,
`respond`, `raise`, and the reset of the registers. -/

namespace Sys2Proof.Machine

/-! ## Register writes -/

/-- FREQ and INC, together (`20_memory.md` R51). -/
def State.setFrequency (s : State) (f : Freq) : State := { s with freq := f, inc := incrementOf f }

/-- PHASE (`10_state.md` R24). -/
def State.setPhase (s : State) (p : Nat) : State := { s with phase := BitVec.ofNat 19 p }

/-- RUN (`10_state.md` R25). -/
def State.setRun (s : State) (run : Bool) : State := { s with run := run }

/-- CARRIER_PENDING (`10_state.md` R27). -/
def State.setCarrierPending (s : State) (b : Bool) : State := { s with carrierPending := b }

/-- The registers take the values of `10_state.md` R31 (`70_reset_and_hazards.md` R160). The constants, the ports, the
input cycles and the observation are no registers (log 18). -/
def State.resetRegisters (s : State) : State :=
  { s with freq := 10000#32, inc := 30000#18, phase := 0#19, run := false, carrierPending := true }

/-! ## Output -/

/-- The strobe and the payload of a driver command (`30_encoding.md` R68). -/
def OutPins.driveCommand (o : OutPins) : DriverCmd → OutPins
  | .setCarrierFrequency hz => { o with carrier := some hz }
  | .setOutputs u v w => { o with duties := some (u, v, w) }
  | .enable => { o with enable := true }
  | .disable => { o with disable := true }

/-- `rsp_valid` with the response word (R66). -/
def OutPins.driveResponse (o : OutPins) (r : Response) : OutPins := { o with rsp := some r.word }

/-- `emit X`: the driver command goes to its strobe and to the output of the step, in program order (`00_scope.md`
R9). -/
def State.emit (s : State) (c : DriverCmd) : State :=
  { s with pins := s.pins.driveCommand c, trace := s.trace ++ [.driver c] }

/-- `respond(status, data)`: the response of the current command (`00_scope.md` R9). -/
def State.respond (s : State) (status : Status) (data : BitVec 32) : State :=
  { s with pins := s.pins.driveResponse ⟨status, data⟩, trace := s.trace ++ [.response ⟨status, data⟩] }

/-- Taking an error, the one shared operation for it: `raise` abandons the operation with no state change and responds
with the status and data 0; there is no vector, no saved state, no mode (`00_scope.md` R9, `60_exceptions.md` R141,
R142, R146). There is no return from it: nothing was entered (R147). -/
def State.raiseError (s : State) (status : Status) : State := s.respond status 0#32

/-! ## Outcomes -/

/-- The outcome of an operation. -/
abbrev Result := Host.Outcome State Fault Refusal

/-- One operation after another: the second runs on the state the first leaves (`20_memory.md` R50). -/
def andThen (o : Result) (f : State → Result) : Result :=
  match o with
  | .next s => f s
  | .fault r => .fault r
  | .refused r => .refused r

end Sys2Proof.Machine
end

