-- ==== Sys2Proof/Machine/Commands.lean ====
section
/-! DEFINITION. Commands.lean: the five operations of the command port (`44_controller_commands.md` R120 to R124). -/

namespace Sys2Proof.Machine

/-- SETF (R120): the range check comes before any write; FREQ and INC are written together; PHASE and RUN never. -/
def execSetf (arg : Arg) (s : State) : Result :=
  if frequencyInRange (frequencyArg arg) then .next ((s.setFrequency arg).respond .ok 0#32)
  else .next (s.raiseError .invalidFrequency)

/-- START (R121): a no-op if already Running, else Enable and RUN = 1; it always succeeds. -/
def execStart (_arg : Arg) (s : State) : Result :=
  if s.run then .next (s.respond .ok 0#32)
  else .next (((s.emit .enable).setRun true).respond .ok 0#32)

/-- STOP (R122): a no-op if already Stopped, else Disable and RUN = 0; it always succeeds. -/
def execStop (_arg : Arg) (s : State) : Result :=
  if s.run then .next (((s.emit .disable).setRun false).respond .ok 0#32)
  else .next (s.respond .ok 0#32)

/-- GETF (R123): the response's data is FREQ. -/
def execGetf (_arg : Arg) (s : State) : Result := .next (s.respond .ok s.freq)

/-- ISRUN (R124): the response's data is `zext_32(RUN)`. -/
def execIsrun (_arg : Arg) (s : State) : Result := .next (s.respond .ok (runWord s.run))

end Sys2Proof.Machine
end

