-- ==== Sys2Proof/Machine/Reserved.lean ====
section
/-! DEFINITION. Reserved.lean: the reserved values of `op` (`44_controller_commands.md` R126): IllegalCommand, whatever
the rest of the word. -/

namespace Sys2Proof.Machine

/-- `op` 0x0 (R126). -/
def execIllegalOp0 (_arg : Arg) (s : State) : Result := .next (s.raiseError .illegalCommand)

/-- `op` 0x6 and 0x7 (R126). -/
def execIllegalOp6To7 (_op : Op) (_arg : Arg) (s : State) : Result := .next (s.raiseError .illegalCommand)

/-- `op` 0x8 to 0xF (R126). -/
def execIllegalOp8To15 (_op : Op) (_arg : Arg) (s : State) : Result := .next (s.raiseError .illegalCommand)

end Sys2Proof.Machine
end

