-- ==== Sys2Proof/Machine/Boost.lean ====
section
/-! DEFINITION. Boost.lean: the Voltage Boost Calculator's Apply (`41_voltage_boost.md` R91), exact integers, ties up. -/

namespace Sys2Proof.Machine

/-- boostFactor · 1000000 = 1000000 + BP · (10000 − F), for F below the knee (R91). -/
def boostNumerator (f : Int) (bp : Nat) : Nat := 1000000 + bp * (Config.boostKnee - f).toNat

/-- round(B · boostFactor), a tie going up (R91, R92 (a)). -/
def boostRounded (b : Nat) (f : Int) (bp : Nat) : Nat := (b * boostNumerator f bp + 500000) / 1000000

/-- Apply(B, F, BP, DUTY_MAX): unchanged at and above the knee or without boost, else rounded and then clamped from
above (R91, R92). -/
def applyBoost (b : Nat) (f : Int) (bp dutyMax : Nat) : Nat :=
  if Config.boostKnee ≤ f ∨ bp = 0 then b else min (boostRounded b f bp) dutyMax

end Sys2Proof.Machine
end

