-- ==== Sys2Proof/Machine/Phase.lean ====
section
/-! DEFINITION. Phase.lean: the Phase Angle Accumulator's Advance (`42_phase_accumulator.md` R101) and the Duty Mapper's
Wrap (`43_duty_mapper.md` R111): one conditional subtraction of a turn, comparison `≥`. -/

namespace Sys2Proof.Machine

/-- One turn subtracted from a count of a turn or more, exactly once. -/
def subtractTurn (x : Nat) : Nat := if Config.phaseMod ≤ x then x - Config.phaseMod else x

/-- Advance(P, I) (R101). -/
def advance (p i : Nat) : Nat := subtractTurn (p + i)

/-- Wrap(x) (R111). -/
def wrapAngle (x : Nat) : Nat := subtractTurn x

end Sys2Proof.Machine
end

