-- ==== Sys2Proof/Machine/ScaledSine.lean ====
section
/-! DEFINITION. ScaledSine.lean: the sines of whole degrees as integers, by which elaboration checks that a supplied
table is the one `20_memory.md` R41 defines (log 20). No operation reads them: Lookup reads the table alone. -/

namespace Sys2Proof.Machine

/-- One, scaled: the sines below are in units of 10⁻¹⁴. -/
def sineUnit : Nat := 100000000000000

/-- 10¹⁴ · sin of 0° to 29°, rounded to the nearest integer. -/
def scaledSines0 : List Nat :=
  [0, 1745240643728, 3489949670250, 5233595624294, 6975647374413,
   8715574274766, 10452846326765, 12186934340515, 13917310096007, 15643446504023,
   17364817766693, 19080899537654, 20791169081776, 22495105434386, 24192189559967,
   25881904510252, 27563735581700, 29237170472274, 30901699437495, 32556815445716,
   34202014332567, 35836794954530, 37460659341591, 39073112848927, 40673664307580,
   42261826174070, 43837114678908, 45399049973955, 46947156278589, 48480962024634]

/-- 10¹⁴ · sin of 30° to 59°, rounded to the nearest integer. -/
def scaledSines30 : List Nat :=
  [50000000000000, 51503807491005, 52991926423320, 54463903501503, 55919290347075,
   57357643635105, 58778525229247, 60181502315205, 61566147532566, 62932039104984,
   64278760968654, 65605902899051, 66913060635886, 68199836006250, 69465837045900,
   70710678118655, 71933980033865, 73135370161917, 74314482547739, 75470958022277,
   76604444311898, 77714596145697, 78801075360672, 79863551004729, 80901699437495,
   81915204428899, 82903757255504, 83867056794542, 84804809615643, 85716730070211]

/-- 10¹⁴ · sin of 60° to 90°, rounded to the nearest integer. -/
def scaledSines60 : List Nat :=
  [86602540378444, 87461970713940, 88294759285893, 89100652418837, 89879404629917,
   90630778703665, 91354545764260, 92050485345244, 92718385456679, 93358042649720,
   93969262078591, 94551857559932, 95105651629515, 95630475596304, 96126169593832,
   96592582628907, 97029572627600, 97437006478524, 97814760073381, 98162718344766,
   98480775301221, 98768834059514, 99026806874157, 99254615164132, 99452189536827,
   99619469809175, 99756405025982, 99862953475457, 99939082701910, 99984769515639,
   100000000000000]

/-- 10¹⁴ · sin(i°) for i = 0 to 90. -/
def scaledSinesQuarter : List Nat := scaledSines0 ++ scaledSines30 ++ scaledSines60

/-- 10¹⁴ · sin(i°) for i = 0 to 179: sin(180° − x) = sin x. -/
def scaledSinesHalf : List Nat := scaledSinesQuarter ++ ((scaledSinesQuarter.drop 1).take 89).reverse

/-- 10¹⁴ · (sin(i°) + 1) for i = 0 to 359, the factor of R41's formula: sin(x + 180°) = −sin x. -/
def raisedSines : List Nat :=
  scaledSinesHalf.map (fun x => sineUnit + x) ++ scaledSinesHalf.map (fun x => sineUnit - x)

/-- R41 for one entry: `entry` is within 1/2 of `raised` / 10¹⁴ / 2 · DUTY_MAX, less the error of one unit in `raised`:
|2 · entry · 10¹⁴ − raised · DUTY_MAX| ≤ 10¹⁴ − DUTY_MAX. -/
def entryRounded (dutyMax raised entry : Nat) : Bool :=
  decide (2 * entry * sineUnit + dutyMax ≤ raised * dutyMax + sineUnit) &&
  decide (raised * dutyMax + dutyMax ≤ 2 * entry * sineUnit + sineUnit)

end Sys2Proof.Machine
end

