-- ==== Sys2Proof/Machine/Memory.lean ====
section
/-! DEFINITION. Memory.lean: the sine table ROM, the only memory (`20_memory.md` R40). It has a read and no write
(R45), whole entries only (R47, R48); its well-formedness is what R41 and R43 say of every table (log 5, log 20). -/

namespace Sys2Proof.Machine

/-- `ROM[i]`, `MemRead(i, 1)`: the one entry at an index (R40). -/
def romRead (t : Config.SineTable) (i : Fin 360) : Nat := t[i]

/-- `ROM[i mod 360]`: the index of the address bus reduced as Lookup reduces it (`40_sine_lookup.md` R81). -/
def romReadMod (t : Config.SineTable) (i : Nat) : Nat := romRead t ⟨i % 360, Nat.mod_lt i (by decide)⟩

/-- R43 (d): every entry lies in [0, DUTY_MAX]. -/
def Memory.entriesInRange (p : Config.Params) : Bool := p.table.toList.all fun d => decide (d ≤ p.dutyMax)

/-- R43 (a): the entries at 0°, 90° and 270°; ROM[0] = DUTY_MAX / 2. -/
def Memory.anchors (p : Config.Params) : Bool :=
  2 * romReadMod p.table 0 == p.dutyMax && romReadMod p.table 90 == p.dutyMax && romReadMod p.table 270 == 0

/-- A list that never falls. -/
def nonDecreasing : List Nat → Bool
  | [] => true
  | [_] => true
  | a :: b :: l => decide (a ≤ b) && nonDecreasing (b :: l)

/-- R43 (b), in the weak sense (`90_conflicts.md` C1): non-decreasing on [0, 90], non-increasing on [90, 270],
non-decreasing on [270, 360). -/
def Memory.monotone (p : Config.Params) : Bool :=
  nonDecreasing (p.table.toList.take 91) && nonDecreasing ((p.table.toList.drop 90).take 181).reverse &&
  nonDecreasing (p.table.toList.drop 270)

/-- R43 (c): ROM[180 − i] = ROM[i] for 0 ≤ i ≤ 180, and ROM[i] + ROM[(i + 180) mod 360] = DUTY_MAX for every i. -/
def Memory.symmetric (p : Config.Params) : Bool :=
  (p.table.toList.take 181).reverse == p.table.toList.take 181 &&
  (List.zipWith (· + ·) p.table.toList (p.table.toList.drop 180 ++ p.table.toList.take 180)).all (· == p.dutyMax)

/-- R41: every entry is the rounding of (sin(i°) + 1) / 2 · DUTY_MAX, with the sine to 14 decimals (log 20). -/
def Memory.rounded (p : Config.Params) : Bool :=
  (List.zipWith (entryRounded p.dutyMax) raisedSines p.table.toList).all id

/-- The table has every property of R43, and is the rounded sine of R41. -/
def Memory.wf (p : Config.Params) : Bool :=
  Memory.entriesInRange p && Memory.anchors p && Memory.monotone p && Memory.symmetric p && Memory.rounded p

end Sys2Proof.Machine
end

