-- ==== Sys2Proof/Machine/Sine.lean ====
section
/-! DEFINITION. Sine.lean: the Sine Table component's Lookup (`40_sine_lookup.md` R81). Build is the configuration's
table (R80). -/

namespace Sys2Proof.Machine

/-- The table index of a phase count: (P · 360) div 300000, mod 360 (R81). -/
def tableIndex (p : Nat) : Nat := p * Config.tableSize / Config.phaseMod % Config.tableSize

/-- Lookup(P): the entry at the index of P. For a turn or more Lookup is not defined (R81 (e)); no reachable state
asks, and the value is free (log 6). -/
def lookup (t : Config.SineTable) (p : Nat) : Nat :=
  if p < Config.phaseMod then romReadMod t (tableIndex p) else Config.lookupBeyondTurn p

end Sys2Proof.Machine
end

