-- ==== Sys2Proof/Machine/DutyMapper.lean ====
section
/-! DEFINITION. DutyMapper.lean: the Duty Mapper's ComputeTriple (`43_duty_mapper.md` R110): lookup first, boost second,
for each phase separately. -/

namespace Sys2Proof.Machine

/-- angleU = P (R110). -/
def angleU (p : Nat) : Nat := p

/-- angleV = Wrap(P + 100000) (R110). -/
def angleV (p : Nat) : Nat := wrapAngle (p + Config.offsetV)

/-- angleW = Wrap(P + 200000) (R110). -/
def angleW (p : Nat) : Nat := wrapAngle (p + Config.offsetW)

/-- The boosted duty of one angle, with the current FREQ and BOOST (R110). -/
def phaseDuty (cfg : Config.Params) (f : Int) (angle : Nat) : Nat :=
  applyBoost (lookup cfg.table angle) f cfg.boostPercent cfg.dutyMax

/-- ComputeTriple(P) (R110). -/
def computeTriple (cfg : Config.Params) (f : Int) (p : Nat) : Nat × Nat × Nat :=
  (phaseDuty cfg f (angleU p), phaseDuty cfg f (angleV p), phaseDuty cfg f (angleW p))

end Sys2Proof.Machine
end

