-- ==== Sys2Proof/Machine/Tick.lean ====
section
/-! DEFINITION. Tick.lean: UPDATE, the operation of the tick input (`44_controller_commands.md` R125). -/

namespace Sys2Proof.Machine

/-- `emit SetOutputs(dU, dV, dW)` for a triple (R125). -/
def State.emitTriple (s : State) (d : Nat × Nat × Nat) : State := s.emit (.setOutputs d.1 d.2.1 d.2.2)

/-- UPDATE (R125): a no-op unless Running; PHASE advances and the triple is that of the NEW phase, forwarded even if it
equals the last one. No response. -/
def execUpdate (s : State) : Result :=
  if s.run then
    .next ((s.setPhase (advance s.phase.toNat s.inc.toNat)).emitTriple
      (computeTriple s.cfg (frequencyOf s.freq) (advance s.phase.toNat s.inc.toNat)))
  else .next s

end Sys2Proof.Machine
end

