-- ==== Sys2Proof/Machine/Dispatch.lean ====
section
/-! DEFINITION. Dispatch.lean: one arm per operation. -/

namespace Sys2Proof.Machine

def exec (i : Instr) (s : State) : Host.Outcome State Fault Refusal :=
  match i with
  | .setf arg => Sys2Proof.Machine.execSetf arg s
  | .start arg => Sys2Proof.Machine.execStart arg s
  | .stop arg => Sys2Proof.Machine.execStop arg s
  | .getf arg => Sys2Proof.Machine.execGetf arg s
  | .isrun arg => Sys2Proof.Machine.execIsrun arg s
  | .update => Sys2Proof.Machine.execUpdate s
  | .illegalOp0 arg => Sys2Proof.Machine.execIllegalOp0 arg s
  | .illegalOp6To7 op arg => Sys2Proof.Machine.execIllegalOp6To7 op arg s
  | .illegalOp8To15 op arg => Sys2Proof.Machine.execIllegalOp8To15 op arg s

end Sys2Proof.Machine
end

