-- ==== Sys2Proof/Machine/Cycle.lean ====
section
/-! DEFINITION. Cycle.lean: the step of the core, per clock cycle (`44_controller_commands.md` R128): the inputs of the
edge, then reset, or the owed carrier command, the tick and the command, in that order (`60_exceptions.md` R145). -/

namespace Sys2Proof.Machine

/-- The input ports of this edge: the oldest cycle still to come, or an idle one (log 1). -/
def State.nextPins (s : State) : InPins := s.inputs.headD InPins.idle

/-- The edge is accepted: its input cycle is used up and every strobe of the edge before it falls ("strobes are high
for exactly one cycle", `30_encoding.md` R61). -/
def State.acceptEdge (s : State) : State := { s with inputs := s.inputs.tail, pins := OutPins.idle }

/-- The `SetCarrierFrequency(CARRIER_HZ)` owed since reset, once (`70_reset_and_hazards.md` R161). -/
def carrierPhase (s : State) : State :=
  if s.carrierPending then (s.emit (.setCarrierFrequency s.cfg.carrierHz)).setCarrierPending false else s

/-- The tick of this cycle: the operation the tick input carries, if any (`30_encoding.md` R70). -/
def tickPhase (tick : Bool) (s : State) : Result :=
  match decodeTick (BitVec.ofBool tick) with
  | .ok i => exec i s
  | .error _ => .next s

/-- The command of this cycle, if `cmd_valid` (R128). -/
def commandPhase (valid : Bool) (w : CommandWord) (s : State) : Result :=
  if valid then exec (decodeCommand w) s else .next s

/-- Cycle(rst, tick, cmd_valid, cmd) (R128). With `rst` = 1 the tick and the command of the cycle are ignored
(`70_reset_and_hazards.md` R160). -/
def runCycle (p : InPins) (s : State) : Result :=
  if p.rst then .next s.resetRegisters
  else andThen (tickPhase p.tick (carrierPhase s)) (commandPhase p.cmdValid p.cmd)

/-- The input cycle that presents these bits: on the tick input if `nbits` is at most 8, else on the command port, as
`portWord` has it (log 9). -/
def fetchPins (nbits w : Nat) : InPins :=
  if nbits ≤ 8 then { InPins.idle with tick := w.testBit 0 }
  else { InPins.idle with cmdValid := true, cmd := BitVec.ofNat 36 w }

end Sys2Proof.Machine
end

