-- ==== Sys2Proof/Machine/Step.lean ====
section
/-! DEFINITION. Step.lean: one step is one clock cycle (`44_controller_commands.md` R128). -/

namespace Sys2Proof.Machine

/-- One clock cycle: the edge's inputs are taken and Cycle runs on them. -/
def step (s : State) : Host.Outcome State Fault Refusal := runCycle s.nextPins s.acceptEdge

/-- s with these bits as the next input cycle, ahead of those still to come (log 9). -/
def State.withFetchWord (s : State) (nbits w : Nat) : State := { s with inputs := fetchPins nbits w :: s.inputs }

end Sys2Proof.Machine
end

