-- ==== Sys2Proof/Machine/Assembler.lean ====
section
/-! DEFINITION. Assembler.lean: the spec's event syntax (`30_encoding.md` R71) as data, and the input cycles an event
stands for. Text is not parsed (R72; log 19). -/

namespace Sys2Proof.Machine

/-- A command of the assembler; its argument is 0 where it takes none (R63). -/
inductive AsmCommand where
  /-- `SETF <mHz>`. -/
  | setf (mHz : Int)
  /-- `START`. -/
  | start
  /-- `STOP`. -/
  | stop
  /-- `GETF`. -/
  | getf
  /-- `ISRUN`. -/
  | isrun
  /-- `ILLEGAL <op> <arg>`. -/
  | illegal (op : Op) (arg : Arg)
deriving DecidableEq, Repr

/-- The command word (R71): SETF's argument is mHz mod 2^32. -/
def AsmCommand.word : AsmCommand → CommandWord
  | .setf mHz => commandWord 0x1#4 (BitVec.ofInt 32 mHz)
  | .start => commandWord 0x2#4 0#32
  | .stop => commandWord 0x3#4 0#32
  | .getf => commandWord 0x4#4 0#32
  | .isrun => commandWord 0x5#4 0#32
  | .illegal op arg => commandWord op arg

/-- One line of the assembler (R71), with the pseudo-operation STATUS. -/
inductive AsmEvent where
  /-- `RESET`: one cycle with `rst` = 1. -/
  | reset
  /-- A command alone. -/
  | command (c : AsmCommand)
  /-- `TICK`: `tick` = 1, `cmd_valid` = 0. -/
  | tick
  /-- `<command> & TICK`: both in one cycle. -/
  | commandTick (c : AsmCommand)
  /-- `STATUS` = `GETF` then `ISRUN`, two cycles. -/
  | status
deriving DecidableEq, Repr

/-- The cycle that presents a command. -/
def AsmCommand.pins (c : AsmCommand) (tick : Bool) : InPins :=
  { InPins.idle with tick := tick, cmdValid := true, cmd := c.word }

/-- The input cycles of an event (R71). -/
def AsmEvent.pins : AsmEvent → List InPins
  | .reset => [{ InPins.idle with rst := true }]
  | .command c => [c.pins false]
  | .tick => [{ InPins.idle with tick := true }]
  | .commandTick c => [c.pins true]
  | .status => [AsmCommand.getf.pins false, AsmCommand.isrun.pins false]

/-- `SETF_HZ <decimal hertz>` = `SETF <hertz · 1000>`, "defined only when hertz · 1000 is an integer" (R71, R74). -/
def setfHertz (hz : Rat) : Option AsmCommand :=
  if (hz * 1000).den = 1 then some (.setf (hz * 1000).num) else none

end Sys2Proof.Machine
end

