-- ==== Sys2Proof/Machine/Elaborate.lean ====
section
/-! DEFINITION. Elaborate.lean: from a parameter set to a machine, or the refusal of the set (`00_scope.md` R6): an
elaboration-time refusal, never a run-time one. -/

namespace Sys2Proof.Machine

/-- The kept parameters are admitted: DUTY_MAX, BOOST_PERCENT (R6) and the table (`20_memory.md` R41, R43). -/
def paramsLegal (p : Config.Params) : Bool :=
  p.dutyMax % 4 == 0 && decide (4 ≤ p.dutyMax) && decide (p.dutyMax ≤ 65532) && decide (p.boostPercent ≤ 20) &&
  Memory.wf p

/-- The constants a machine keeps of a set whose table has 360 entries. -/
def keptParams (q : Config.ParamSet) (h : q.table.toArray.size = 360) : Config.Params where
  dutyMax := q.dutyMax
  boostPercent := q.boostPercent.toNat
  carrierHz := q.carrierHz
  table := ⟨q.table.toArray, h⟩

/-- Elaboration: each clause of R6 in turn, then the frequency constants, then the table (`20_memory.md` R41, R43); the
order and the frequency constants are log 10's. An admitted set gives the machine in its reset state. PHASE_MOD of a
set is 3 · 1000 · TICK_HZ (R6). -/
def elaborate (q : Config.ParamSet) : Except Config.ParamRefusal State :=
  if q.tableSize ≠ Config.tableSize then .error .tableSize
  else if q.tickHz ≠ Config.tickHz then .error .tickHz
  else if q.dutyMax % 4 ≠ 0 ∨ q.dutyMax < 4 ∨ 65532 < q.dutyMax then .error .dutyMax
  else if q.boostPercent < 0 ∨ 20 < q.boostPercent then .error .boostPercent
  else if 3 * 1000 * (q.tickHz : Int) ≤ 3 * q.freqMax then .error .singleWrap
  else if q.freqDefault < q.freqMin ∨ q.freqMax < q.freqDefault then .error .resetFrequency
  else if q.freqMin ≠ Config.freqMin ∨ q.freqMax ≠ Config.freqMax ∨ q.freqDefault ≠ Config.freqDefault then
    .error .frequencyConstants
  else if h : q.table.toArray.size = 360 then
    if Memory.wf (keptParams q h) then .ok (State.resetWith (keptParams q h)) else .error .table
  else .error .table

end Sys2Proof.Machine
end

