-- ==== Sys2Proof/Safety.lean ====
section
/-! DEFINITION. Safety.lean: what a legal state and a legal output are (`10_state.md` R29, `30_encoding.md` R68), what a
cycle's output looks like (R69), and the source's real-number forms of the formulas (`00_scope.md` R7), in the terms the
statements use. -/

namespace Sys2Proof.Safety

open Sys2Proof.Machine

/-! ## States -/

/-- The register invariant of every reachable state (R29 (a), (b), (c), (e); (d) is the type of RUN and
CARRIER_PENDING). -/
structure Inv (s : State) : Prop where
  /-- (a) FREQ_MIN ≤ FREQ. -/
  freq_min : 100 ≤ s.freq.toInt
  /-- (a) FREQ ≤ FREQ_MAX. -/
  freq_max : s.freq.toInt ≤ 50000
  /-- (b) INC = 3 · FREQ, "never stale". -/
  inc_eq : (s.inc.toNat : Int) = 3 * s.freq.toInt
  /-- (c) PHASE lies in one turn. -/
  phase_lt : s.phase.toNat < 300000
  /-- (e) PHASE is a multiple of 3. -/
  phase_mod : s.phase.toNat % 3 = 0

/-- The machine's constants are those of an admitted parameter set (`00_scope.md` R6, `20_memory.md` R41, R43). -/
def Elaborated (s : State) : Prop := paramsLegal s.cfg = true

/-! ## Sequences of operations -/

/-- Operations one after another, each to completion (`20_memory.md` R50). -/
def execAll : List Instr → State → Result
  | [], s => .next s
  | i :: l, s => andThen (exec i s) (execAll l)

/-! ## Output -/

/-- The driver commands of a stretch of the trace, in order. -/
def driverCommands (outs : List Output) : List DriverCmd :=
  outs.filterMap fun o => match o with
    | .driver c => some c
    | .response _ => none

/-- The responses of a stretch of the trace, in order. -/
def responses (outs : List Output) : List Response :=
  outs.filterMap fun o => match o with
    | .driver _ => none
    | .response r => some r

/-- The carrier commands of a stretch of the trace. -/
def carrierCommands (outs : List Output) : List DriverCmd :=
  (driverCommands outs).filter fun c => match c with
    | .setCarrierFrequency _ => true
    | _ => false

/-- The payload ranges of the driver port (R68): the carrier is the parameter CARRIER_HZ, each duty lies in
[0, DUTY_MAX]. -/
def CommandLegal (p : Config.Params) : DriverCmd → Prop
  | .setCarrierFrequency hz => hz = p.carrierHz
  | .setOutputs u v w => u ≤ p.dutyMax ∧ v ≤ p.dutyMax ∧ w ≤ p.dutyMax
  | .enable => True
  | .disable => True

/-- A trace that holds legal driver commands only. -/
def TraceLegal (s : State) : Prop := ∀ c ∈ driverCommands s.trace, CommandLegal s.cfg c

/-- What one cycle emits, by kind: at most one of each, and `Enable` or `Disable` but never both (R69). -/
structure CycleOutput where
  /-- The payload of `SetCarrierFrequency`. -/
  carrier : Option (BitVec 32)
  /-- The payload of `SetOutputs`. -/
  duties : Option (Nat × Nat × Nat)
  /-- `Enable` (true) or `Disable` (false). -/
  switch : Option Bool
  /-- The response. -/
  response : Option Response
deriving DecidableEq, Repr

/-- The order of one cycle's trace: `SetCarrierFrequency`, then `SetOutputs`, then `Enable` or `Disable` (R69), and the
response of the command, which it gives after what it emits (R121, R122). -/
def CycleOutput.trace (o : CycleOutput) : List Output :=
  (o.carrier.map fun hz => Output.driver (.setCarrierFrequency hz)).toList ++
  (o.duties.map fun d => Output.driver (.setOutputs d.1 d.2.1 d.2.2)).toList ++
  (o.switch.map fun on => Output.driver (if on then .enable else .disable)).toList ++
  (o.response.map Output.response).toList

/-- The output ports in that cycle (R60, R66, R68). -/
def CycleOutput.pins (o : CycleOutput) : OutPins where
  rsp := o.response.map Response.word
  carrier := o.carrier
  duties := o.duties
  enable := o.switch == some true
  disable := o.switch == some false

/-! ## Input cycles -/

/-- A cycle with a tick and nothing else. -/
def tickOnly : InPins := ⟨false, true, false, 0#36⟩

/-- A cycle with a command and nothing else. -/
def commandOnly (w : CommandWord) : InPins := ⟨false, false, true, w⟩

/-! ## Duties -/

/-- The boosted duty of a table index, reduced mod 360: `Apply(ROM[i], FREQ, BOOST, DUTY_MAX)` (`43_duty_mapper.md`
R110). -/
def dutyAtIndex (s : State) (i : Nat) : Nat :=
  applyBoost (romReadMod s.cfg.table i) s.freq.toInt s.cfg.boostPercent s.cfg.dutyMax

/-- PHASE after the next UPDATE taken while Running, on the legal ranges (`42_phase_accumulator.md` R101). -/
def advancedPhase (s : State) : Nat := (s.phase.toNat + s.inc.toNat) % 300000

/-- The triple of the next UPDATE taken while Running: V reads the table 120 entries ahead of U, W 240
(`43_duty_mapper.md` R112, R113 (a)). -/
def nextTriple (s : State) : Nat × Nat × Nat :=
  (dutyAtIndex s (3 * advancedPhase s / 2500), dutyAtIndex s (3 * advancedPhase s / 2500 + 120),
    dutyAtIndex s (3 * advancedPhase s / 2500 + 240))

/-! ## The real-number forms -/

/-- Every entry is within 1/2 of the real value (sin(2π · i / 360) + 1) / 2 · DUTY_MAX (`20_memory.md` R41). -/
def TableExact (p : Config.Params) : Prop :=
  ∀ i : Fin 360,
    |(romRead p.table i : ℝ) - (Real.sin (2 * Real.pi * (i : ℕ) / 360) + 1) / 2 * p.dutyMax| ≤ 1 / 2

/-- Apply in the source's form, over the rationals: hz = F / 1000, ratio = hz / 10, boostFactor = 1 + (BP / 100) · (1 −
ratio), the product rounded with a tie up and clamped to DUTY_MAX (`41_voltage_boost.md` R90, `00_scope.md` R8). -/
def applyRational (b : ℕ) (f : ℤ) (bp dutyMax : ℕ) : ℤ :=
  if (10 : ℚ) ≤ (f : ℚ) / 1000 ∨ bp = 0 then b
  else min ⌊(b : ℚ) * (1 + (bp : ℚ) / 100 * (1 - (f : ℚ) / 1000 / 10)) + 1 / 2⌋ dutyMax

end Sys2Proof.Safety
end

