-- ==== Sys2Proof/Certificates/Slice0/Obligations.lean ====
section
/-! DEFINITION. Obligations.lean: the statements about the model. Each docstring names the rule it formalises. -/

open Sys2Proof Sys2Proof.Machine Sys2Proof.Safety

/-! ## Encoding -/

/-- R62, R64, R65, R70: decoding the encoding of a well-formed operation gives it back, for every operand, and every
36-bit word is the encoding of the well-formed operation it decodes to. -/
def Obligations.DecodeAndEncodeAgree : Prop :=
  (∀ i : Instr, i.wellFormed = true → decode (encode i) = .ok i) ∧
  ∀ w : CommandWord, encode (decodeCommand w) = .command w ∧ (decodeCommand w).wellFormed = true

/-- R64, R65: exactly one row of the match and mask table has a given word, and it is the row of the operation the word
decodes to. -/
def Obligations.OpcodeRowsCoverEveryWordOnce : Prop :=
  ∀ w : CommandWord, ∃ r : OpcodeRow,
    opcodeRows.filter (fun r => r.hasWord w) = [r] ∧ r.mnemonic = (decodeCommand w).mnemonic

/-- R62 to R65, R70: sample words decode as the spec's encodings say. -/
def Obligations.SampleWordsDecode : Prop :=
  decode (.command 0x100001388#36) = .ok (.setf 5000#32) ∧
  decode (.command 0x2DEADBEEF#36) = .ok (.start 0xDEADBEEF#32) ∧
  decode (.command 0x300000000#36) = .ok (.stop 0#32) ∧
  decode (.command 0x400000000#36) = .ok (.getf 0#32) ∧
  decode (.command 0x500000000#36) = .ok (.isrun 0#32) ∧
  decode (.tick 1#1) = .ok .update ∧
  decode (.tick 0#1) = .error .noCall ∧
  decode (.command 0x000000000#36) = .ok (.illegalOp0 0#32) ∧
  decode (.command 0x700000001#36) = .ok (.illegalOp6To7 7#4 1#32) ∧
  decode (.command 0x900000007#36) = .ok (.illegalOp8To15 9#4 7#32)

/-- R66, R67: the response word holds the status code in bits 33:32 and the data in bits 31:0, and status 3 is never
produced. -/
def Obligations.ResponseWordFields : Prop :=
  ∀ r : Response,
    r.word.extractLsb' 32 2 = r.status.code ∧ r.word.extractLsb' 0 32 = r.data ∧ r.status.code ≠ 3#2 ∧
    (r.status = .ok ↔ r.status.code = 0#2) ∧ (r.status = .invalidFrequency ↔ r.status.code = 1#2) ∧
    (r.status = .illegalCommand ↔ r.status.code = 2#2)

/-! ## The pure functions -/

/-- R101: Advance on the legal ranges is the single conditional subtraction, stays in one turn, is the sum modulo a
turn, and fits a 19-bit adder. -/
def Obligations.AdvanceIsSumModuloTurn : Prop :=
  (∀ p i : Nat, p < 300000 → 300 ≤ i → i ≤ 150000 →
    advance p i = (if 300000 ≤ p + i then p + i - 300000 else p + i) ∧
    advance p i < 300000 ∧ advance p i = (p + i) % 300000 ∧ p + i < 2 ^ 19) ∧
  advance 270000 30000 = 0 ∧ advance 299999 150000 = 149999 ∧ advance 0 300 = 300

/-- R111: Wrap on its whole domain is one conditional subtraction and the full reduction modulo a turn; the angles of V
and W are the Wrap of PHASE + OFF_V and PHASE + OFF_W, and both arguments lie in that domain. -/
def Obligations.WrapIsReductionModuloTurn : Prop :=
  (∀ x : Nat, x ≤ 499999 →
    wrapAngle x = (if 300000 ≤ x then x - 300000 else x) ∧ wrapAngle x = x % 300000) ∧
  ∀ p : Nat, p < 300000 →
    angleV p = wrapAngle (p + Config.offsetV) ∧ p + Config.offsetV ≤ 499999 ∧
    angleW p = wrapAngle (p + Config.offsetW) ∧ p + Config.offsetW ≤ 499999

/-- R112: the three angles are exactly one and two thirds of a turn apart modulo a turn, and their table indices exactly
120 and 240 entries. -/
def Obligations.OutputAnglesAreExactThirds : Prop :=
  ∀ p : Nat, p < 300000 →
    (angleV p + 300000 - angleU p) % 300000 = 100000 ∧
    (angleW p + 300000 - angleU p) % 300000 = 200000 ∧
    (angleW p + 300000 - angleV p) % 300000 = 100000 ∧
    angleV p < 300000 ∧ angleW p < 300000 ∧
    tableIndex (angleV p) = (tableIndex (angleU p) + 120) % 360 ∧
    tableIndex (angleW p) = (tableIndex (angleU p) + 240) % 360

/-- R81, R7: Lookup of a phase count in one turn reads the entry at floor(angle · 360 / 2π) of the real angle
2π · P / 300000, which is (3 · P) div 2500 and lies in the table without the reduction mod 360. -/
def Obligations.LookupReadsFloorOfAngle : Prop :=
  (∀ (t : Config.SineTable) (p : Nat), p < 300000 →
    lookup t p = romReadMod t (3 * p / 2500) ∧ 3 * p / 2500 < 360 ∧
    ((3 * p / 2500 : Nat) : Int) = ⌊(2 * Real.pi * (p : ℝ) / 300000) * 360 / (2 * Real.pi)⌋) ∧
  lookup Config.sineTable1000 15000 = 655

/-- R49: entry i serves exactly the phase counts P with 2500 · i ≤ 3 · P < 2500 · (i + 1). -/
def Obligations.TableIndexWindow : Prop :=
  ∀ p i : Nat, p < 300000 → (tableIndex p = i ↔ 2500 * i ≤ 3 * p ∧ 3 * p < 2500 * (i + 1))

/-- R90, R91: Apply equals the source's real-number formula evaluated exactly, with its rounding (a tie up), its clamp,
and its unchanged branch; in the boost region it is R91's integer form, at or above the knee or without boost the
argument. -/
def Obligations.ApplyEqualsRationalForm : Prop :=
  (∀ (b : Nat) (f : Int) (bp dutyMax : Nat),
    ((applyBoost b f bp dutyMax : Nat) : Int) = applyRational b f bp dutyMax) ∧
  (∀ b f bp dutyMax : Nat, f < 10000 → bp ≠ 0 →
    applyBoost b f bp dutyMax = min ((b * (1000000 + bp * (10000 - f)) + 500000) / 1000000) dutyMax) ∧
  (∀ b f bp dutyMax : Nat, 10000 ≤ f ∨ bp = 0 → applyBoost b f bp dutyMax = b) ∧
  applyBoost 655 5000 10 1000 = 688

/-- R93 (a), (b): Apply never lowers a duty, is the identity at and above the knee, without boost and at 0, and is
monotone in the duty, in the boost, and against the frequency. -/
def Obligations.ApplyIsMonotone : Prop :=
  ∀ (b f bp d : Nat), b ≤ d →
    b ≤ applyBoost b f bp d ∧ applyBoost b f bp d ≤ d ∧
    (10000 ≤ f ∨ bp = 0 ∨ b = 0 → applyBoost b f bp d = b) ∧
    (∀ b' : Nat, b' ≤ b → applyBoost b' f bp d ≤ applyBoost b f bp d) ∧
    (∀ f' : Nat, f' ≤ f → applyBoost b f bp d ≤ applyBoost b f' bp d) ∧
    (∀ bp' : Nat, bp' ≤ bp → applyBoost b f bp' d ≤ applyBoost b f bp d)

/-- R7, R23: INC = 3 · FREQ counts is the source's 2π · f · T radians exactly: for a legal SETF argument the increment
the model writes, in radians, is 2π · (F / 1000) · 0.01. -/
def Obligations.IncrementIsExactRadians : Prop :=
  ∀ arg : Arg, 100 ≤ arg.toInt → arg.toInt ≤ 50000 →
    2 * Real.pi * ((incrementOf arg).toNat : ℝ) / 300000 = 2 * Real.pi * ((arg.toInt : ℝ) / 1000) * (1 / 100)

/-! ## The sine table -/

/-- R41, R42: every entry of the table for DUTY_MAX = 1000 is within 1/2 of (sin(2π · i / 360) + 1) / 2 · 1000. -/
def Obligations.DefaultTableIsRoundedSine : Prop :=
  TableExact Config.defaultParams

/-- R43, and the checksum of R42, for the table of R42: anchors, weak monotonicity, symmetries, range; it passes the
table check of elaboration (log 10). -/
def Obligations.DefaultTableProperties : Prop :=
  Config.sineDegrees.length = 360 ∧ Config.sineDegrees.sum = 180000 ∧ Memory.wf Config.defaultParams = true ∧
  paramsLegal Config.defaultParams = true

/-- R40, R43, R68: in a machine of an admitted parameter set every base duty and every boosted duty of an angle of one
turn lies in [0, DUTY_MAX]; DUTY_W bits hold DUTY_MAX and no fewer do. -/
def Obligations.DutiesStayInRange : Prop :=
  ∀ (p : Config.Params) (f : Int) (angle : Nat), paramsLegal p = true → angle < 300000 →
    lookup p.table angle ≤ p.dutyMax ∧ phaseDuty p f angle ≤ p.dutyMax ∧
    p.dutyMax < 2 ^ Config.dutyWidth p.dutyMax ∧ 2 ^ (Config.dutyWidth p.dutyMax - 1) ≤ p.dutyMax

/-! ## Elaboration and reset -/

/-- R6: which refusal elaboration answers for each clause of R6: the first clause that a set breaks, in the order table
size, tick rate, DUTY_MAX, BOOST_PERCENT, single wrap, reset frequency. The names of the refusals and the order of the
clauses are the model's choice (log 10). -/
def Obligations.RefusedParameterSets : Prop :=
  ∀ q : Config.ParamSet,
    (q.tableSize ≠ 360 → elaborate q = .error .tableSize) ∧
    (q.tableSize = 360 →
      (q.tickHz ≠ 100 → elaborate q = .error .tickHz) ∧
      (q.tickHz = 100 →
        (q.dutyMax % 4 ≠ 0 ∨ q.dutyMax < 4 ∨ 65532 < q.dutyMax → elaborate q = .error .dutyMax) ∧
        (q.dutyMax % 4 = 0 → 4 ≤ q.dutyMax → q.dutyMax ≤ 65532 →
          (q.boostPercent < 0 ∨ 20 < q.boostPercent → elaborate q = .error .boostPercent) ∧
          (0 ≤ q.boostPercent → q.boostPercent ≤ 20 →
            (300000 ≤ 3 * q.freqMax → elaborate q = .error .singleWrap) ∧
            (3 * q.freqMax < 300000 → q.freqDefault < q.freqMin ∨ q.freqMax < q.freqDefault →
              elaborate q = .error .resetFrequency)))))

/-- R6, R31, R41: elaboration admits a set exactly if its table size and tick rate, its DUTY_MAX, its BOOST_PERCENT and
its frequency constants are those R5 and R6 allow and its table has 360 entries and passes the table check; the machine
is then in its reset state with legal constants. The model's choices (log 10): only R5's frequency constants are
admitted, and the table check is R43 with R41 computed from scaled sines, with their error as a margin (log 20).
TableCheckIsExact says that this check is R41. -/
def Obligations.ElaborationAdmitsExactly : Prop :=
  ∀ q : Config.ParamSet,
    ((∃ s, elaborate q = .ok s) ↔
      q.tableSize = 360 ∧ q.tickHz = 100 ∧ q.dutyMax % 4 = 0 ∧ 4 ≤ q.dutyMax ∧ q.dutyMax ≤ 65532 ∧
      0 ≤ q.boostPercent ∧ q.boostPercent ≤ 20 ∧ q.freqMin = 100 ∧ q.freqMax = 50000 ∧ q.freqDefault = 10000 ∧
      ∃ h : q.table.toArray.size = 360, Memory.wf (keptParams q h) = true) ∧
    ∀ s, elaborate q = .ok s →
      s = State.resetWith s.cfg ∧ Elaborated s ∧ s.cfg.dutyMax = q.dutyMax ∧
      (s.cfg.boostPercent : Int) = q.boostPercent ∧ s.cfg.carrierHz = q.carrierHz ∧ s.cfg.table.toList = q.table

/-- R31, R160: the reset state, with R5's parameters and with any others: every register at the value R31 gives it; and a
reset of the registers of any state puts each of them at that value. That it keeps the constants, the ports, the input
cycles to come and the trace so far is the model's reading (log 18). -/
def Obligations.ResetValues : Prop :=
  (∀ p : Config.Params,
    (State.resetWith p).freq = 10000#32 ∧ (State.resetWith p).inc = 30000#18 ∧ (State.resetWith p).phase = 0#19 ∧
    (State.resetWith p).run = false ∧ (State.resetWith p).carrierPending = true ∧ (State.resetWith p).cfg = p) ∧
  State.reset.cfg.boostPercent = 10 ∧ State.reset.cfg.dutyMax = 1000 ∧
  State.reset.cfg.table = Config.sineTable1000 ∧ elaborate Config.defaultParamSet = .ok State.reset ∧
  ∀ s : State, s.resetRegisters =
    { State.resetWith s.cfg with pins := s.pins, inputs := s.inputs, trace := s.trace }

/-- R160: a cycle with `rst` = 1 puts the registers at R31's values from any state, whatever tick and command it
carries, and emits nothing; a second such cycle leaves the registers as the first did. -/
def Obligations.ResetCycleOverridesEverything : Prop :=
  (∀ (s : State) (p : InPins) (rest : List InPins), s.inputs = p :: rest → p.rst = true →
    step s = .next { s with
      freq := 10000#32, inc := 30000#18, phase := 0#19, run := false, carrierPending := true,
      pins := OutPins.idle, inputs := rest }) ∧
  ∀ (s : State) (p q : InPins) (rest : List InPins), s.inputs = p :: q :: rest → p.rst = true → q.rst = true →
    ∃ t u, step s = .next t ∧ step t = .next u ∧ u = { t with inputs := rest }

/-! ## The operations -/

/-- R120: SETF with a legal argument writes FREQ and INC together and nothing else and answers status 0; with an
illegal one it writes no register and answers status 1; both complete in every state. -/
def Obligations.SetfWritesPairOrRejects : Prop :=
  ∀ (arg : Arg) (s : State),
    (100 ≤ arg.toInt ∧ arg.toInt ≤ 50000 →
      exec (.setf arg) s = .next { s with
        freq := arg, inc := BitVec.ofNat 18 (3 * arg.toNat),
        pins := { s.pins with rsp := some 0x000000000#34 }, trace := s.trace ++ [.response ⟨.ok, 0#32⟩] } ∧
      ((BitVec.ofNat 18 (3 * arg.toNat)).toNat : Int) = 3 * arg.toInt) ∧
    (arg.toInt < 100 ∨ 50000 < arg.toInt →
      exec (.setf arg) s = .next { s with
        pins := { s.pins with rsp := some 0x100000000#34 },
        trace := s.trace ++ [.response ⟨.invalidFrequency, 0#32⟩] })

/-- R120 (e), R123: after a successful SETF of F and any sequence of operations without another successful SETF, each of
which completes, GETF answers F. -/
def Obligations.GetfAnswersLastSetf : Prop :=
  ∀ (arg x : Arg) (l : List Instr) (s : State), 100 ≤ arg.toInt → arg.toInt ≤ 50000 →
    (∀ a : Arg, Instr.setf a ∈ l → a.toInt < 100 ∨ 50000 < a.toInt) →
    ∃ t u v, exec (.setf arg) s = .next t ∧ execAll l t = .next u ∧ exec (.getf x) u = .next v ∧
      v.trace = u.trace ++ [.response ⟨.ok, arg⟩]

/-- R121: START emits Enable and sets RUN exactly if RUN was 0, writes nothing else and answers status 0. -/
def Obligations.StartEnablesOnce : Prop :=
  ∀ (arg : Arg) (s : State),
    (s.run = false →
      exec (.start arg) s = .next { s with
        run := true, pins := { s.pins with enable := true, rsp := some 0x000000000#34 },
        trace := s.trace ++ [.driver .enable, .response ⟨.ok, 0#32⟩] }) ∧
    (s.run = true →
      exec (.start arg) s = .next { s with
        pins := { s.pins with rsp := some 0x000000000#34 }, trace := s.trace ++ [.response ⟨.ok, 0#32⟩] })

/-- R122: STOP emits Disable and clears RUN exactly if RUN was 1, writes nothing else and answers status 0. -/
def Obligations.StopDisablesOnce : Prop :=
  ∀ (arg : Arg) (s : State),
    (s.run = true →
      exec (.stop arg) s = .next { s with
        run := false, pins := { s.pins with disable := true, rsp := some 0x000000000#34 },
        trace := s.trace ++ [.driver .disable, .response ⟨.ok, 0#32⟩] }) ∧
    (s.run = false →
      exec (.stop arg) s = .next { s with
        pins := { s.pins with rsp := some 0x000000000#34 }, trace := s.trace ++ [.response ⟨.ok, 0#32⟩] })

/-- R121 (a): two STARTs in a row emit one Enable if the machine was Stopped and none if it was Running, no SetOutputs,
and leave PHASE, FREQ and INC. -/
def Obligations.StartTwiceEnablesOnce : Prop :=
  ∀ (a b : Arg) (s : State), ∃ t u, exec (.start a) s = .next t ∧ exec (.start b) t = .next u ∧
    driverCommands u.trace = driverCommands s.trace ++ (if s.run then [] else [.enable]) ∧
    u.phase = s.phase ∧ u.freq = s.freq ∧ u.inc = s.inc ∧ u.run = true

/-- R123: GETF answers FREQ and writes no register; the value is legal in every state with legal registers and 10000
after reset. -/
def Obligations.GetfAnswersFreq : Prop :=
  (∀ (arg : Arg) (s : State),
    exec (.getf arg) s = .next { s with
      pins := { s.pins with rsp := some (0#2 ++ s.freq) }, trace := s.trace ++ [.response ⟨.ok, s.freq⟩] }) ∧
  (∀ s : State, Inv s → 100 ≤ s.freq.toNat ∧ s.freq.toNat ≤ 50000) ∧ State.reset.freq = 10000#32

/-- R124: ISRUN answers 1 if Running and 0 if Stopped and writes no register; after reset it answers 0. -/
def Obligations.IsrunAnswersRun : Prop :=
  (∀ (arg : Arg) (s : State),
    (s.run = true →
      exec (.isrun arg) s = .next { s with
        pins := { s.pins with rsp := some 0x000000001#34 }, trace := s.trace ++ [.response ⟨.ok, 1#32⟩] }) ∧
    (s.run = false →
      exec (.isrun arg) s = .next { s with
        pins := { s.pins with rsp := some 0x000000000#34 }, trace := s.trace ++ [.response ⟨.ok, 0#32⟩] })) ∧
  State.reset.run = false

/-- R125: UPDATE does nothing while Stopped; while Running it advances PHASE modulo a turn and forwards the triple of
the new phase, the table read 120 and 240 entries ahead for V and W and each entry boosted; it writes nothing else and
answers nothing. -/
def Obligations.UpdateAdvancesAndForwards : Prop :=
  ∀ s : State,
    (s.run = false → exec .update s = .next s) ∧
    (s.run = true → s.phase.toNat < 300000 →
      exec .update s = .next { s with
        phase := BitVec.ofNat 19 (advancedPhase s),
        pins := { s.pins with duties := some (nextTriple s) },
        trace := s.trace ++ [.driver (.setOutputs (nextTriple s).1 (nextTriple s).2.1 (nextTriple s).2.2)] } ∧
      (BitVec.ofNat 19 (advancedPhase s)).toNat = advancedPhase s)

/-- R126, R142: each of the three reserved rows answers IllegalCommand and writes no register, for every word with a
reserved op. -/
def Obligations.ReservedOpsAnswerIllegalCommand : Prop :=
  ∀ (i : Instr) (s : State),
    ((∃ arg, i = .illegalOp0 arg) ∨ (∃ op arg, i = .illegalOp6To7 op arg) ∨ (∃ op arg, i = .illegalOp8To15 op arg) ∨
      (∃ w : CommandWord, i = decodeCommand w ∧ ((commandOp w).toNat = 0 ∨ 6 ≤ (commandOp w).toNat))) →
    exec i s = .next { s with
      pins := { s.pins with rsp := some 0x200000000#34 }, trace := s.trace ++ [.response ⟨.illegalCommand, 0#32⟩] }

/-- R63: only SETF reads its argument: any other op does the same whatever the argument. -/
def Obligations.IgnoredArgumentsHaveNoEffect : Prop :=
  ∀ (op : Op) (a b : Arg) (s : State), op ≠ 0x1#4 →
    exec (decodeCommand (op ++ a)) s = exec (decodeCommand (op ++ b)) s

/-! ## What no operation does -/

/-- R61, R140, R141, R142: every command gives exactly one response; its status is InvalidFrequency exactly for SETF out
of range and IllegalCommand exactly for a reserved op; an error leaves every register as it was. That the response is
the last of the trace, after the command's driver commands, is the model's reading (log 13). -/
def Obligations.ErrorsAreExactlyTwo : Prop :=
  ∀ (w : CommandWord) (s : State), ∃ t r,
    exec (decodeCommand w) s = .next t ∧ responses t.trace = responses s.trace ++ [r] ∧
    t.trace.getLast? = some (.response r) ∧
    (r.status = .invalidFrequency ↔
      commandOp w = 0x1#4 ∧ ((commandArg w).toInt < 100 ∨ 50000 < (commandArg w).toInt)) ∧
    (r.status = .illegalCommand ↔ commandOp w = 0x0#4 ∨ 6 ≤ (commandOp w).toNat) ∧
    (r.status ≠ .ok → r.data = 0#32 ∧ driverCommands t.trace = driverCommands s.trace ∧
      t = { s with pins := t.pins, trace := t.trace })

/-- R22 to R27, R30: FREQ and INC change only by SETF, PHASE only by UPDATE while Running, RUN only by START and STOP;
no operation writes CARRIER_PENDING, the constants or the inputs. -/
def Obligations.RegisterWriters : Prop :=
  ∀ (i : Instr) (s : State), ∃ t, exec i s = .next t ∧
    ((t.freq ≠ s.freq ∨ t.inc ≠ s.inc) → ∃ arg, i = .setf arg ∧ t.freq = arg) ∧
    (t.phase ≠ s.phase → i = .update ∧ s.run = true) ∧
    (t.run ≠ s.run → (∃ arg, i = .start arg) ∨ ∃ arg, i = .stop arg) ∧
    t.carrierPending = s.carrierPending ∧ t.cfg = s.cfg ∧ t.inputs = s.inputs

/-- R127: the transition table: RUN after each event and the driver command it emits; a reset leaves RUN 0 and emits
none. -/
def Obligations.RunTransitionTable : Prop :=
  (∀ (i : Instr) (s : State), ∃ t outs, exec i s = .next t ∧ t.trace = s.trace ++ outs ∧
    match i with
    | .start _ => t.run = true ∧ driverCommands outs = if s.run then [] else [.enable]
    | .stop _ => t.run = false ∧ driverCommands outs = if s.run then [.disable] else []
    | .update => t.run = s.run ∧
        if s.run then ∃ u v w, driverCommands outs = [.setOutputs u v w] else driverCommands outs = []
    | _ => t.run = s.run ∧ driverCommands outs = []) ∧
  ∀ (s : State) (p : InPins) (rest : List InPins), s.inputs = p :: rest → p.rst = true →
    ∃ t, step s = .next t ∧ t.run = false ∧ t.trace = s.trace

/-- R45, R26: no step changes the sine table, BOOST or any other constant of the machine. -/
def Obligations.ConstantsNeverChange : Prop :=
  ∀ s t : State, step s = .next t → t.cfg = s.cfg

/-- R44: no operation but UPDATE reads the table, and UPDATE reads only the entries at the three indices: a table that
agrees there gives the same outcome, the table apart. -/
def Obligations.OnlyUpdateReadsThreeEntries : Prop :=
  ∀ (i : Instr) (s : State) (tab : Config.SineTable), s.phase.toNat < 300000 →
    (i = .update → s.run = true → ∀ k ∈ [0, 120, 240],
      romReadMod tab (3 * advancedPhase s / 2500 + k) = romReadMod s.cfg.table (3 * advancedPhase s / 2500 + k)) →
    ∃ t, exec i s = .next t ∧
      exec i { s with cfg := { s.cfg with table := tab } } = .next { t with cfg := { s.cfg with table := tab } }

/-- R152, R24: no command depends on PHASE: with another phase it has the same outcome, PHASE apart. -/
def Obligations.CommandsDoNotSeePhase : Prop :=
  ∀ (w : CommandWord) (s : State) (x : Phase), ∃ t,
    exec (decodeCommand w) s = .next t ∧ exec (decodeCommand w) { s with phase := x } = .next { t with phase := x }

/-! ## The cycle -/

/-- R128: a step runs the operations its input cycle carries: the owed carrier command, then the decoded tick, then the
decoded command on the state the tick leaves. -/
def Obligations.StepRunsDecodedOperations : Prop :=
  ∀ (s : State) (p : InPins) (rest : List InPins), s.inputs = p :: rest → p.rst = false →
    (p.tick = false → p.cmdValid = true →
      ∀ i, decode (.command p.cmd) = .ok i → step s = exec i (carrierPhase s.acceptEdge)) ∧
    (p.tick = true → p.cmdValid = false → step s = exec .update (carrierPhase s.acceptEdge)) ∧
    (p.tick = true → p.cmdValid = true → ∀ i t, decode (.command p.cmd) = .ok i →
      exec .update (carrierPhase s.acceptEdge) = .next t → step s = exec i t) ∧
    (p.tick = false → p.cmdValid = false → step s = .next (carrierPhase s.acceptEdge))

/-- The placed word is the next operation: where the decoder gives an operation for bits of the table's width, a step
after `withFetchWord` runs it, from the state after the owed carrier command. How bits are placed is the model's choice
(log 9). -/
def Obligations.PlacedWordRunsNext : Prop :=
  ∀ (s : State) (nbits w : Nat) (i : Instr), decodeTableWord nbits w = some i →
    step (s.withFetchWord nbits w) = exec i (carrierPhase { s with pins := OutPins.idle })

/-- R128: a cycle with `rst` = 0, `tick` = 0, `cmd_valid` = 0 and CARRIER_PENDING = 0 changes no register and outputs
nothing; so does a cycle past the last given input (log 1). -/
def Obligations.IdleCycleChangesNothing : Prop :=
  ∀ s : State, s.carrierPending = false →
    (∀ p rest, s.inputs = p :: rest → p.rst = false → p.tick = false → p.cmdValid = false →
      step s = .next { s with pins := OutPins.idle, inputs := rest }) ∧
    (s.inputs = [] → step s = .next { s with pins := OutPins.idle })

/-- R143: the step is total: it gives a next state in every state, for every input. -/
def Obligations.StepNeverStops : Prop :=
  ∀ s : State, ∃ t, step s = .next t

/-- R60, R61, R66, R68, R69: the outputs of one cycle: at most one of each driver strobe, never both Enable and
Disable, in R69's order and then the response; the ports show exactly them. The carrier command is emitted exactly if
owed, SetOutputs exactly for a tick while Running, the response exactly for a command, the switch exactly as RUN
changes; with `rst` = 1 nothing. That the response stands after the driver commands of its cycle is the model's reading
(log 13). -/
def Obligations.CycleOutputsInOrder : Prop :=
  ∀ (s : State) (p : InPins) (rest : List InPins), s.inputs = p :: rest →
    ∃ (t : State) (o : CycleOutput), step s = .next t ∧ t.inputs = rest ∧ t.trace = s.trace ++ o.trace ∧ t.pins = o.pins ∧
      (p.rst = true → o = ⟨none, none, none, none⟩) ∧
      (p.rst = false →
        o.carrier = (if s.carrierPending then some s.cfg.carrierHz else none) ∧
        o.duties.isSome = (p.tick && s.run) ∧
        o.response.isSome = p.cmdValid ∧
        o.switch = (if t.run = s.run then none else some t.run))

/-- R128: a tick and a command in one cycle do what the tick in one cycle and the command in the next do: the same
registers and the same trace; only the ports, which show the last cycle, may differ. -/
def Obligations.SameCyclePairIsTickThenCommand : Prop :=
  ∀ (s : State) (w : CommandWord) (rest : List InPins),
    ∃ t u v, step { s with inputs := ⟨false, true, true, w⟩ :: rest } = .next t ∧
      step { s with inputs := tickOnly :: commandOnly w :: rest } = .next u ∧ step u = .next v ∧
      t = { v with pins := t.pins }

/-! ## Runs -/

/-- R29: the register invariant holds after reset, for any constants. -/
def Obligations.ResetKeepsRegisterRules : Prop :=
  ∀ p : Config.Params, Inv (State.resetWith p)

/-- R29: every step from a state with legal registers leads to one. -/
def Obligations.StepKeepsRegisterRules : Prop :=
  ∀ s t : State, Inv s → step s = .next t → Inv t

/-- R29, R11: every state reached from the reset state of any machine, on any inputs, exists and has legal registers. -/
def Obligations.ReachableStatesAreLegal : Prop :=
  ∀ (p : Config.Params) (ins : List InPins) (k : Nat),
    ∃ t : State, Host.Core.run Sys2Proof.core k { State.resetWith p with inputs := ins } = .next t ∧ Inv t ∧ t.cfg = p

/-- R68: in a machine of an admitted parameter set, every step keeps the trace legal: every duty in [0, DUTY_MAX] and
the carrier CARRIER_HZ. -/
def Obligations.StepKeepsTraceLegal : Prop :=
  ∀ s t : State, Inv s → Elaborated s → TraceLegal s → step s = .next t → TraceLegal t ∧ Elaborated t

/-- R161, R27: over any number of cycles without a reset, the carrier command is emitted exactly once if it was owed,
before any other driver command, with the value CARRIER_HZ, and not at all if it was not owed. -/
def Obligations.CarrierCommandOncePerReset : Prop :=
  ∀ (s : State) (k : Nat), (∀ p ∈ s.inputs.take k, p.rst = false) →
    ∃ (t : State) (outs : List Output),
      Host.Core.run Sys2Proof.core k s = .next t ∧ t.trace = s.trace ++ outs ∧
      (s.carrierPending = true → 0 < k →
        t.carrierPending = false ∧ carrierCommands outs = [.setCarrierFrequency s.cfg.carrierHz] ∧
        (driverCommands outs).head? = some (.setCarrierFrequency s.cfg.carrierHz)) ∧
      (s.carrierPending = false → t.carrierPending = false ∧ carrierCommands outs = [])

/-- R103: after k cycles with a tick and nothing else, while Running, PHASE is (P0 + 3 · F · k) mod 300000, the other
registers are as they were, and k triples have been forwarded. -/
def Obligations.UpdatesClosedForm : Prop :=
  ∀ (s : State) (k : Nat) (rest : List InPins),
    Inv s → s.run = true → s.carrierPending = false → s.inputs = List.replicate k tickOnly ++ rest →
    ∃ (t : State) (outs : List Output), Host.Core.run Sys2Proof.core k s = .next t ∧
      t.phase.toNat = (s.phase.toNat + 3 * s.freq.toNat * k) % 300000 ∧
      t.freq = s.freq ∧ t.inc = s.inc ∧ t.run = true ∧ t.carrierPending = false ∧ t.cfg = s.cfg ∧ t.inputs = rest ∧
      t.trace = s.trace ++ outs ∧ outs.length = k ∧
      ∀ o ∈ outs, ∃ u v w, o = .driver (.setOutputs u v w)

/-- R103: the period of the phase sequence at a legal frequency F is 100000 / gcd(100000, F) ticks: exactly its
multiples bring the phase back. -/
def Obligations.PhasePeriod : Prop :=
  ∀ (f p k : Nat), 100 ≤ f → f ≤ 50000 → p < 300000 →
    ((fun q => advance q (3 * f))^[k] p = p ↔ 100000 / Nat.gcd 100000 f ∣ k)

/-- R170: STOP, any number of ticks while Stopped, START and one tick give the phase of one UPDATE: PHASE is held and
not reset. -/
def Obligations.PhaseHeldAcrossStopStart : Prop :=
  ∀ (s : State) (m : Nat) (a b : Arg) (rest : List InPins), Inv s → s.run = true →
    s.inputs = commandOnly (0x3#4 ++ a) :: (List.replicate m tickOnly ++
      (commandOnly (0x2#4 ++ b) :: tickOnly :: rest)) →
    ∃ t : State, Host.Core.run Sys2Proof.core (m + 3) s = .next t ∧
      t.phase.toNat = (s.phase.toNat + s.inc.toNat) % 300000 ∧ t.run = true ∧ t.freq = s.freq ∧ t.inc = s.inc ∧
      t.inputs = rest

/-! ## The table check of elaboration -/

/-- R41: the scaled sines of the table check are, within one unit, 10¹⁴ · (sin(2π · i / 360) + 1) for i = 0 to 359. That
the check uses them is the model's choice (log 20). -/
def Obligations.ScaledSinesAreSines : Prop :=
  raisedSines.length = 360 ∧
  ∀ i : Fin 360, ∃ r : Nat, raisedSines[(i : ℕ)]? = some r ∧
    |(r : ℝ) - sineUnit * (Real.sin (2 * Real.pi * (i : ℕ) / 360) + 1)| ≤ 1

/-- R41, R80: in every admitted parameter set, and so in every machine that elaboration gives, each entry of the table is
within 1/2 of (sin(2π · i / 360) + 1) / 2 · DUTY_MAX. -/
def Obligations.AdmittedTablesAreRoundedSines : Prop :=
  (∀ p : Config.Params, paramsLegal p = true → TableExact p) ∧
  ∀ (q : Config.ParamSet) (s : State), elaborate q = .ok s → TableExact s.cfg

/-- R41, R43: with a DUTY_MAX that R6 allows, the table check (log 10) passes exactly the tables of R41: each entry within
1/2 of the real value. So the margin of the check refuses no such table, and each has the properties of R43. -/
def Obligations.TableCheckIsExact : Prop :=
  ∀ p : Config.Params, p.dutyMax % 4 = 0 → 4 ≤ p.dutyMax → p.dutyMax ≤ 65532 →
    (Memory.wf p = true ↔ TableExact p)
end

