-- ==== Sys2Proof/Laws/State.lean ====
section
/-! SUPPORT. State.lean: one lemma per field per update of State, each true by rfl, so that no proof unfolds a record
update. -/

namespace Sys2Proof.Machine

/-! ### setFrequency -/

@[simp] theorem State.setFrequency_freq (s : State) (f : Freq) : (s.setFrequency f).freq = f := rfl
@[simp] theorem State.setFrequency_inc (s : State) (f : Freq) : (s.setFrequency f).inc = incrementOf f := rfl
@[simp] theorem State.setFrequency_phase (s : State) (f : Freq) : (s.setFrequency f).phase = s.phase := rfl
@[simp] theorem State.setFrequency_run (s : State) (f : Freq) : (s.setFrequency f).run = s.run := rfl
@[simp] theorem State.setFrequency_carrierPending (s : State) (f : Freq) :
    (s.setFrequency f).carrierPending = s.carrierPending := rfl
@[simp] theorem State.setFrequency_cfg (s : State) (f : Freq) : (s.setFrequency f).cfg = s.cfg := rfl
@[simp] theorem State.setFrequency_pins (s : State) (f : Freq) : (s.setFrequency f).pins = s.pins := rfl
@[simp] theorem State.setFrequency_inputs (s : State) (f : Freq) : (s.setFrequency f).inputs = s.inputs := rfl
@[simp] theorem State.setFrequency_trace (s : State) (f : Freq) : (s.setFrequency f).trace = s.trace := rfl

/-! ### setPhase -/

@[simp] theorem State.setPhase_freq (s : State) (p : Nat) : (s.setPhase p).freq = s.freq := rfl
@[simp] theorem State.setPhase_inc (s : State) (p : Nat) : (s.setPhase p).inc = s.inc := rfl
@[simp] theorem State.setPhase_phase (s : State) (p : Nat) : (s.setPhase p).phase = BitVec.ofNat 19 p := rfl
@[simp] theorem State.setPhase_run (s : State) (p : Nat) : (s.setPhase p).run = s.run := rfl
@[simp] theorem State.setPhase_carrierPending (s : State) (p : Nat) :
    (s.setPhase p).carrierPending = s.carrierPending := rfl
@[simp] theorem State.setPhase_cfg (s : State) (p : Nat) : (s.setPhase p).cfg = s.cfg := rfl
@[simp] theorem State.setPhase_pins (s : State) (p : Nat) : (s.setPhase p).pins = s.pins := rfl
@[simp] theorem State.setPhase_inputs (s : State) (p : Nat) : (s.setPhase p).inputs = s.inputs := rfl
@[simp] theorem State.setPhase_trace (s : State) (p : Nat) : (s.setPhase p).trace = s.trace := rfl

/-! ### setRun -/

@[simp] theorem State.setRun_freq (s : State) (b : Bool) : (s.setRun b).freq = s.freq := rfl
@[simp] theorem State.setRun_inc (s : State) (b : Bool) : (s.setRun b).inc = s.inc := rfl
@[simp] theorem State.setRun_phase (s : State) (b : Bool) : (s.setRun b).phase = s.phase := rfl
@[simp] theorem State.setRun_run (s : State) (b : Bool) : (s.setRun b).run = b := rfl
@[simp] theorem State.setRun_carrierPending (s : State) (b : Bool) :
    (s.setRun b).carrierPending = s.carrierPending := rfl
@[simp] theorem State.setRun_cfg (s : State) (b : Bool) : (s.setRun b).cfg = s.cfg := rfl
@[simp] theorem State.setRun_pins (s : State) (b : Bool) : (s.setRun b).pins = s.pins := rfl
@[simp] theorem State.setRun_inputs (s : State) (b : Bool) : (s.setRun b).inputs = s.inputs := rfl
@[simp] theorem State.setRun_trace (s : State) (b : Bool) : (s.setRun b).trace = s.trace := rfl

/-! ### setCarrierPending -/

@[simp] theorem State.setCarrierPending_freq (s : State) (b : Bool) : (s.setCarrierPending b).freq = s.freq := rfl
@[simp] theorem State.setCarrierPending_inc (s : State) (b : Bool) : (s.setCarrierPending b).inc = s.inc := rfl
@[simp] theorem State.setCarrierPending_phase (s : State) (b : Bool) : (s.setCarrierPending b).phase = s.phase := rfl
@[simp] theorem State.setCarrierPending_run (s : State) (b : Bool) : (s.setCarrierPending b).run = s.run := rfl
@[simp] theorem State.setCarrierPending_carrierPending (s : State) (b : Bool) :
    (s.setCarrierPending b).carrierPending = b := rfl
@[simp] theorem State.setCarrierPending_cfg (s : State) (b : Bool) : (s.setCarrierPending b).cfg = s.cfg := rfl
@[simp] theorem State.setCarrierPending_pins (s : State) (b : Bool) : (s.setCarrierPending b).pins = s.pins := rfl
@[simp] theorem State.setCarrierPending_inputs (s : State) (b : Bool) : (s.setCarrierPending b).inputs = s.inputs := rfl
@[simp] theorem State.setCarrierPending_trace (s : State) (b : Bool) : (s.setCarrierPending b).trace = s.trace := rfl

/-! ### resetRegisters -/

@[simp] theorem State.resetRegisters_freq (s : State) : s.resetRegisters.freq = 10000#32 := rfl
@[simp] theorem State.resetRegisters_inc (s : State) : s.resetRegisters.inc = 30000#18 := rfl
@[simp] theorem State.resetRegisters_phase (s : State) : s.resetRegisters.phase = 0#19 := rfl
@[simp] theorem State.resetRegisters_run (s : State) : s.resetRegisters.run = false := rfl
@[simp] theorem State.resetRegisters_carrierPending (s : State) : s.resetRegisters.carrierPending = true := rfl
@[simp] theorem State.resetRegisters_cfg (s : State) : s.resetRegisters.cfg = s.cfg := rfl
@[simp] theorem State.resetRegisters_pins (s : State) : s.resetRegisters.pins = s.pins := rfl
@[simp] theorem State.resetRegisters_inputs (s : State) : s.resetRegisters.inputs = s.inputs := rfl
@[simp] theorem State.resetRegisters_trace (s : State) : s.resetRegisters.trace = s.trace := rfl

/-! ### emit -/

@[simp] theorem State.emit_freq (s : State) (c : DriverCmd) : (s.emit c).freq = s.freq := rfl
@[simp] theorem State.emit_inc (s : State) (c : DriverCmd) : (s.emit c).inc = s.inc := rfl
@[simp] theorem State.emit_phase (s : State) (c : DriverCmd) : (s.emit c).phase = s.phase := rfl
@[simp] theorem State.emit_run (s : State) (c : DriverCmd) : (s.emit c).run = s.run := rfl
@[simp] theorem State.emit_carrierPending (s : State) (c : DriverCmd) :
    (s.emit c).carrierPending = s.carrierPending := rfl
@[simp] theorem State.emit_cfg (s : State) (c : DriverCmd) : (s.emit c).cfg = s.cfg := rfl
@[simp] theorem State.emit_pins (s : State) (c : DriverCmd) : (s.emit c).pins = s.pins.driveCommand c := rfl
@[simp] theorem State.emit_inputs (s : State) (c : DriverCmd) : (s.emit c).inputs = s.inputs := rfl
@[simp] theorem State.emit_trace (s : State) (c : DriverCmd) : (s.emit c).trace = s.trace ++ [.driver c] := rfl

/-! ### respond -/

@[simp] theorem State.respond_freq (s : State) (st : Status) (d : BitVec 32) : (s.respond st d).freq = s.freq := rfl
@[simp] theorem State.respond_inc (s : State) (st : Status) (d : BitVec 32) : (s.respond st d).inc = s.inc := rfl
@[simp] theorem State.respond_phase (s : State) (st : Status) (d : BitVec 32) : (s.respond st d).phase = s.phase := rfl
@[simp] theorem State.respond_run (s : State) (st : Status) (d : BitVec 32) : (s.respond st d).run = s.run := rfl
@[simp] theorem State.respond_carrierPending (s : State) (st : Status) (d : BitVec 32) :
    (s.respond st d).carrierPending = s.carrierPending := rfl
@[simp] theorem State.respond_cfg (s : State) (st : Status) (d : BitVec 32) : (s.respond st d).cfg = s.cfg := rfl
@[simp] theorem State.respond_pins (s : State) (st : Status) (d : BitVec 32) :
    (s.respond st d).pins = s.pins.driveResponse ⟨st, d⟩ := rfl
@[simp] theorem State.respond_inputs (s : State) (st : Status) (d : BitVec 32) :
    (s.respond st d).inputs = s.inputs := rfl
@[simp] theorem State.respond_trace (s : State) (st : Status) (d : BitVec 32) :
    (s.respond st d).trace = s.trace ++ [.response ⟨st, d⟩] := rfl

/-! ### raiseError -/

@[simp] theorem State.raiseError_freq (s : State) (st : Status) : (s.raiseError st).freq = s.freq := rfl
@[simp] theorem State.raiseError_inc (s : State) (st : Status) : (s.raiseError st).inc = s.inc := rfl
@[simp] theorem State.raiseError_phase (s : State) (st : Status) : (s.raiseError st).phase = s.phase := rfl
@[simp] theorem State.raiseError_run (s : State) (st : Status) : (s.raiseError st).run = s.run := rfl
@[simp] theorem State.raiseError_carrierPending (s : State) (st : Status) :
    (s.raiseError st).carrierPending = s.carrierPending := rfl
@[simp] theorem State.raiseError_cfg (s : State) (st : Status) : (s.raiseError st).cfg = s.cfg := rfl
@[simp] theorem State.raiseError_pins (s : State) (st : Status) :
    (s.raiseError st).pins = s.pins.driveResponse ⟨st, 0#32⟩ := rfl
@[simp] theorem State.raiseError_inputs (s : State) (st : Status) : (s.raiseError st).inputs = s.inputs := rfl
@[simp] theorem State.raiseError_trace (s : State) (st : Status) :
    (s.raiseError st).trace = s.trace ++ [.response ⟨st, 0#32⟩] := rfl

/-! ### emitTriple -/

@[simp] theorem State.emitTriple_freq (s : State) (d : Nat × Nat × Nat) : (s.emitTriple d).freq = s.freq := rfl
@[simp] theorem State.emitTriple_inc (s : State) (d : Nat × Nat × Nat) : (s.emitTriple d).inc = s.inc := rfl
@[simp] theorem State.emitTriple_phase (s : State) (d : Nat × Nat × Nat) : (s.emitTriple d).phase = s.phase := rfl
@[simp] theorem State.emitTriple_run (s : State) (d : Nat × Nat × Nat) : (s.emitTriple d).run = s.run := rfl
@[simp] theorem State.emitTriple_carrierPending (s : State) (d : Nat × Nat × Nat) :
    (s.emitTriple d).carrierPending = s.carrierPending := rfl
@[simp] theorem State.emitTriple_cfg (s : State) (d : Nat × Nat × Nat) : (s.emitTriple d).cfg = s.cfg := rfl
@[simp] theorem State.emitTriple_pins (s : State) (d : Nat × Nat × Nat) :
    (s.emitTriple d).pins = { s.pins with duties := some (d.1, d.2.1, d.2.2) } := rfl
@[simp] theorem State.emitTriple_inputs (s : State) (d : Nat × Nat × Nat) : (s.emitTriple d).inputs = s.inputs := rfl
@[simp] theorem State.emitTriple_trace (s : State) (d : Nat × Nat × Nat) :
    (s.emitTriple d).trace = s.trace ++ [.driver (.setOutputs d.1 d.2.1 d.2.2)] := rfl

/-! ### acceptEdge -/

@[simp] theorem State.acceptEdge_freq (s : State) : s.acceptEdge.freq = s.freq := rfl
@[simp] theorem State.acceptEdge_inc (s : State) : s.acceptEdge.inc = s.inc := rfl
@[simp] theorem State.acceptEdge_phase (s : State) : s.acceptEdge.phase = s.phase := rfl
@[simp] theorem State.acceptEdge_run (s : State) : s.acceptEdge.run = s.run := rfl
@[simp] theorem State.acceptEdge_carrierPending (s : State) : s.acceptEdge.carrierPending = s.carrierPending := rfl
@[simp] theorem State.acceptEdge_cfg (s : State) : s.acceptEdge.cfg = s.cfg := rfl
@[simp] theorem State.acceptEdge_pins (s : State) : s.acceptEdge.pins = OutPins.idle := rfl
@[simp] theorem State.acceptEdge_inputs (s : State) : s.acceptEdge.inputs = s.inputs.tail := rfl
@[simp] theorem State.acceptEdge_trace (s : State) : s.acceptEdge.trace = s.trace := rfl

/-! ### withFetchWord -/

@[simp] theorem State.withFetchWord_freq (s : State) (nbits w : Nat) : (s.withFetchWord nbits w).freq = s.freq := rfl
@[simp] theorem State.withFetchWord_inc (s : State) (nbits w : Nat) : (s.withFetchWord nbits w).inc = s.inc := rfl
@[simp] theorem State.withFetchWord_phase (s : State) (nbits w : Nat) : (s.withFetchWord nbits w).phase = s.phase := rfl
@[simp] theorem State.withFetchWord_run (s : State) (nbits w : Nat) : (s.withFetchWord nbits w).run = s.run := rfl
@[simp] theorem State.withFetchWord_carrierPending (s : State) (nbits w : Nat) :
    (s.withFetchWord nbits w).carrierPending = s.carrierPending := rfl
@[simp] theorem State.withFetchWord_cfg (s : State) (nbits w : Nat) : (s.withFetchWord nbits w).cfg = s.cfg := rfl
@[simp] theorem State.withFetchWord_pins (s : State) (nbits w : Nat) : (s.withFetchWord nbits w).pins = s.pins := rfl
@[simp] theorem State.withFetchWord_inputs (s : State) (nbits w : Nat) :
    (s.withFetchWord nbits w).inputs = fetchPins nbits w :: s.inputs := rfl
@[simp] theorem State.withFetchWord_trace (s : State) (nbits w : Nat) : (s.withFetchWord nbits w).trace = s.trace := rfl

end Sys2Proof.Machine
end

