-- ==== Sys2Proof/Laws/Memory.lean ====
section
/-! SUPPORT. Memory.lean: the sine table's operations. Memory has no write (`20_memory.md` R45), so that every operation
keeps its well-formedness is that every operation keeps the constants. -/

namespace Sys2Proof.Machine

/-- Every read of a well-formed table lies in [0, DUTY_MAX]. -/
theorem romReadMod_le (p : Config.Params) (h : Memory.wf p = true) (i : Nat) : romReadMod p.table i ≤ p.dutyMax := by
  have hr : Memory.entriesInRange p = true := by
    simp only [Memory.wf, Bool.and_eq_true] at h
    exact h.1.1.1.1
  have hm : romReadMod p.table i ∈ p.table.toList := by
    simp only [romReadMod, romRead, Vector.mem_toList_iff]
    exact Vector.getElem_mem _
  exact of_decide_eq_true (List.all_eq_true.mp hr _ hm)

/-- What the check of one entry says. -/
theorem entryRounded_iff (dutyMax raised entry : Nat) : entryRounded dutyMax raised entry = true ↔
    2 * entry * sineUnit + dutyMax ≤ raised * dutyMax + sineUnit ∧
    raised * dutyMax + dutyMax ≤ 2 * entry * sineUnit + sineUnit := by
  simp only [entryRounded, Bool.and_eq_true, decide_eq_true_eq]

/-- A check that passes on every pair of two lists passes on the pair at an index. -/
theorem all_zipWith {α β : Type} (f : α → β → Bool) (l : List α) (m : List β) (i : Nat) (a : α) (b : β)
    (h : (List.zipWith f l m).all id = true) (ha : l[i]? = some a) (hb : m[i]? = some b) : f a b = true := by
  have hz : (List.zipWith f l m)[i]? = some (f a b) := by rw [List.getElem?_zipWith, ha, hb]
  exact List.all_eq_true.mp h _ (List.mem_of_getElem? hz)

/-- Every entry of a well-formed table passes the check of R41 against its own scaled sine. -/
theorem entryRounded_of_wf (p : Config.Params) (h : Memory.wf p = true) (i : Fin 360) (r : Nat)
    (hr : raisedSines[i.val]? = some r) : entryRounded p.dutyMax r (romRead p.table i) = true := by
  have hw : Memory.rounded p = true := by
    simp only [Memory.wf, Bool.and_eq_true] at h
    exact h.2
  exact all_zipWith (entryRounded p.dutyMax) raisedSines p.table.toList i r (romRead p.table i) hw hr
    (by simp [romRead])

/-- A read depends on its index mod 360 only. -/
theorem romReadMod_mod (t : Config.SineTable) (i : Nat) : romReadMod t (i % 360) = romReadMod t i := by
  simp [romReadMod]

/-- An admitted parameter set has a well-formed table. -/
theorem wf_of_paramsLegal (p : Config.Params) (h : paramsLegal p = true) : Memory.wf p = true := by
  simp only [paramsLegal, Bool.and_eq_true] at h
  exact h.2

/-- Lookup of an angle of one turn reads the entry at (3 · P) div 2500, which is below 360. -/
theorem lookup_of_lt (t : Config.SineTable) (p : Nat) (h : p < 300000) :
    lookup t p = romReadMod t (3 * p / 2500) ∧ 3 * p / 2500 < 360 := by
  have hi : p * 360 / 300000 = 3 * p / 2500 := by omega
  refine ⟨?_, by omega⟩
  simp only [lookup, tableIndex, Config.phaseMod, Config.tableSize, if_pos h, hi]
  exact romReadMod_mod t _

/-- The table of R42 and the other default parameters are admitted. -/
theorem defaultParams_wf : Memory.wf Config.defaultParams = true := by decide +kernel

end Sys2Proof.Machine
end

