-- ==== Sys2Proof/Laws/Functions.lean ====
section
/-! SUPPORT. Functions.lean: one lemma per pure function, saying what it can answer, to be cited instead of unfolding. -/

namespace Sys2Proof.Machine

/-- Subtracting one turn from a count below two turns is reduction modulo a turn. -/
theorem subtractTurn_eq_mod (x : Nat) (h : x < 600000) : subtractTurn x = x % 300000 := by
  unfold subtractTurn Config.phaseMod
  split <;> omega

/-- Advance from one turn by an 18-bit increment stays in one turn. -/
theorem advance_eq (p : Nat) (i : Inc) (h : p < 300000) : advance p i.toNat = (p + i.toNat) % 300000 :=
  subtractTurn_eq_mod _ (by have := i.isLt; omega)

/-- The 19 bits of PHASE hold every count of one turn. -/
theorem toNat_ofNat_phase (p : Nat) (h : p < 300000) : (BitVec.ofNat 19 p).toNat = p := by
  rw [BitVec.toNat_ofNat]; exact Nat.mod_eq_of_lt (by omega)

/-- The angles of V and W of an angle of one turn. -/
theorem angleV_eq (p : Nat) (h : p < 300000) : angleV p = (p + 100000) % 300000 := by
  rw [angleV, wrapAngle, Config.offsetV, subtractTurn_eq_mod _ (by omega)]

theorem angleW_eq (p : Nat) (h : p < 300000) : angleW p = (p + 200000) % 300000 := by
  rw [angleW, wrapAngle, Config.offsetW, subtractTurn_eq_mod _ (by omega)]

/-- The table index of an angle of one turn. -/
theorem tableIndex_eq (p : Nat) (h : p < 300000) : tableIndex p = 3 * p / 2500 := by
  have hi : p * 360 / 300000 = 3 * p / 2500 := by omega
  rw [tableIndex, Config.tableSize, Config.phaseMod, hi]
  omega

/-- Apply, both branches. -/
theorem applyBoost_cases (b : Nat) (f : Int) (bp d : Nat) :
    ((10000 ≤ f ∨ bp = 0) ∧ applyBoost b f bp d = b) ∨
    ((f < 10000 ∧ bp ≠ 0) ∧
      applyBoost b f bp d = min ((b * (1000000 + bp * (10000 - f).toNat) + 500000) / 1000000) d) := by
  unfold applyBoost boostRounded boostNumerator Config.boostKnee
  by_cases h : 10000 ≤ f ∨ bp = 0
  · exact .inl ⟨h, if_pos h⟩
  · rw [if_neg h]
    exact .inr ⟨by omega, rfl⟩

/-- Rounding never loses: round(B · boostFactor) is at least B. -/
theorem le_boostRounded (b : Nat) (f : Int) (bp : Nat) : b ≤ boostRounded b f bp := by
  unfold boostRounded boostNumerator
  have : b * 1000000 ≤ b * (1000000 + bp * (Config.boostKnee - f).toNat) := Nat.mul_le_mul_left _ (by omega)
  omega

/-- Apply keeps the range of a duty. -/
theorem applyBoost_le (b : Nat) (f : Int) (bp d : Nat) (h : b ≤ d) : applyBoost b f bp d ≤ d := by
  unfold applyBoost
  split
  · exact h
  · exact Nat.min_le_right _ _

end Sys2Proof.Machine
end

