-- ==== Sys2Proof/Laws/Cycle.lean ====
section
/-! SUPPORT. Cycle.lean: one inversion lemma per operation of the set and per part of the cycle: all it can do, to be
cited instead of unfolding `exec` or `step`. -/

namespace Sys2Proof.Machine

/-! ## Decoding -/

/-- The fields of `{op, arg}`. -/
theorem commandOp_commandWord (op : Op) (arg : Arg) : commandOp (commandWord op arg) = op := by
  apply BitVec.eq_of_toNat_eq
  have := arg.isLt
  have := op.isLt
  simp only [commandOp, commandWord, BitVec.extractLsb'_toNat, BitVec.toNat_append, Nat.shiftLeft_eq,
    Nat.shiftRight_eq_div_pow]
  rw [Nat.or_comm, ← Nat.shiftLeft_eq, Nat.or_comm, ← Nat.shiftLeft_add_eq_or_of_lt arg.isLt, Nat.shiftLeft_eq]
  omega

theorem commandArg_commandWord (op : Op) (arg : Arg) : commandArg (commandWord op arg) = arg := by
  apply BitVec.eq_of_toNat_eq
  have := arg.isLt
  simp only [commandArg, commandWord, BitVec.extractLsb'_toNat, BitVec.toNat_append, Nat.shiftRight_zero]
  rw [← Nat.shiftLeft_add_eq_or_of_lt arg.isLt, Nat.shiftLeft_eq]
  omega

/-- A word is its two fields. -/
theorem commandWord_fields (w : CommandWord) : commandWord (commandOp w) (commandArg w) = w := by
  apply BitVec.eq_of_toNat_eq
  have := w.isLt
  have h : w.toNat % 2 ^ 32 < 2 ^ 32 := Nat.mod_lt _ (by decide)
  simp only [commandOp, commandArg, commandWord, BitVec.extractLsb'_toNat, BitVec.toNat_append, Nat.shiftRight_zero]
  rw [← Nat.shiftLeft_add_eq_or_of_lt h, Nat.shiftLeft_eq, Nat.shiftRight_eq_div_pow]
  omega

/-! ## Operations -/

/-- The range check of SETF, as inequalities. -/
theorem frequencyInRange_iff (f : Int) : frequencyInRange f = true ↔ 100 ≤ f ∧ f ≤ 50000 := by
  unfold frequencyInRange Config.freqMin Config.freqMax
  rw [Bool.and_eq_true, decide_eq_true_iff, decide_eq_true_iff]

/-- All SETF can do. -/
theorem exec_setf_cases (arg : Arg) (s : State) :
    ((100 ≤ arg.toInt ∧ arg.toInt ≤ 50000) ∧
      exec (.setf arg) s = .next ((s.setFrequency arg).respond .ok 0#32)) ∨
    (¬(100 ≤ arg.toInt ∧ arg.toInt ≤ 50000) ∧ exec (.setf arg) s = .next (s.raiseError .invalidFrequency)) := by
  by_cases h : 100 ≤ arg.toInt ∧ arg.toInt ≤ 50000
  · exact .inl ⟨h, if_pos ((frequencyInRange_iff _).mpr h)⟩
  · exact .inr ⟨h, if_neg (mt (frequencyInRange_iff _).mp h)⟩

/-- All START can do. -/
theorem exec_start_cases (arg : Arg) (s : State) :
    (s.run = true ∧ exec (.start arg) s = .next (s.respond .ok 0#32)) ∨
    (s.run = false ∧ exec (.start arg) s = .next (((s.emit .enable).setRun true).respond .ok 0#32)) := by
  cases h : s.run <;> simp [exec, execStart, h]

/-- All STOP can do. -/
theorem exec_stop_cases (arg : Arg) (s : State) :
    (s.run = true ∧ exec (.stop arg) s = .next (((s.emit .disable).setRun false).respond .ok 0#32)) ∨
    (s.run = false ∧ exec (.stop arg) s = .next (s.respond .ok 0#32)) := by
  cases h : s.run <;> simp [exec, execStop, h]

/-- All UPDATE can do. -/
theorem exec_update_cases (s : State) :
    (s.run = false ∧ exec .update s = .next s) ∨
    (s.run = true ∧ exec .update s =
      .next ((s.setPhase (advance s.phase.toNat s.inc.toNat)).emitTriple
        (computeTriple s.cfg s.freq.toInt (advance s.phase.toNat s.inc.toNat)))) := by
  cases h : s.run <;> simp [exec, execUpdate, frequencyOf, h]

/-! ## The parts of a cycle -/

/-- All the carrier phase can do. -/
theorem carrierPhase_cases (s : State) :
    (s.carrierPending = true ∧
      carrierPhase s = (s.emit (.setCarrierFrequency s.cfg.carrierHz)).setCarrierPending false) ∨
    (s.carrierPending = false ∧ carrierPhase s = s) := by
  cases h : s.carrierPending <;> simp [carrierPhase, h]

/-- The tick phase is UPDATE or nothing. -/
theorem tickPhase_true (s : State) : tickPhase true s = exec .update s := rfl

theorem tickPhase_false (s : State) : tickPhase false s = .next s := rfl

/-- The command phase is the decoded command or nothing. -/
theorem commandPhase_true (w : CommandWord) (s : State) : commandPhase true w s = exec (decodeCommand w) s := rfl

theorem commandPhase_false (w : CommandWord) (s : State) : commandPhase false w s = .next s := rfl

/-- One operation after another, when the first gives a next state. -/
theorem andThen_next (s : State) (f : State → Result) : andThen (.next s) f = f s := rfl

/-- A step whose input cycle holds `rst` high. -/
theorem step_of_rst (s : State) (p : InPins) (rest : List InPins) (h : s.inputs = p :: rest) (hr : p.rst = true) :
    step s = .next s.acceptEdge.resetRegisters := by
  simp [step, State.nextPins, runCycle, h, hr]

/-- A step whose input cycle holds `rst` low: the carrier, the tick and the command, in order. -/
theorem step_of_not_rst (s : State) (p : InPins) (rest : List InPins) (h : s.inputs = p :: rest)
    (hr : p.rst = false) :
    step s = andThen (tickPhase p.tick (carrierPhase s.acceptEdge)) (commandPhase p.cmdValid p.cmd) := by
  simp [step, State.nextPins, runCycle, h, hr]

/-- A step past the last input. -/
theorem step_of_no_inputs (s : State) (h : s.inputs = []) : step s = .next (carrierPhase s.acceptEdge) := by
  simp [step, State.nextPins, runCycle, h, InPins.idle, tickPhase_false, commandPhase_false, andThen_next]

end Sys2Proof.Machine
end

