-- ==== Sys2Proof/Laws/PerInstr.lean ====
section
/-! SUPPORT. PerInstr.lean: the per-instruction family EncodesInRow: the encoding of a well-formed operation has the
fixed bits of the opcode-table row that carries its mnemonic (`30_encoding.md` R64, R65, R70). -/

namespace Sys2Proof.Laws.EncodesInRow

open Sys2Proof.Machine

/-- A command word's row in the match and mask table is the operation's; the tick input's one row is the bit 1. -/
def Statement (i : Instr) : Prop :=
  i.wellFormed = true →
    match encode i with
    | .command w => ∃ r ∈ opcodeRows, r.mnemonic = i.mnemonic ∧ r.hasWord w = true
    | .tick b => i.mnemonic = "UPDATE" ∧ b = 1#1

/-- A row that fixes bits of `op` only holds every word with a fitting `op`. -/
theorem hasWord_commandWord (name : String) (mask pattern : CommandWord) (op : Op) (arg : Arg)
    (hm : mask = commandWord (commandOp mask) 0#32) (hp : pattern = commandWord (commandOp pattern) 0#32)
    (h : op &&& commandOp mask = commandOp pattern) :
    (OpcodeRow.mk name mask pattern).hasWord (commandWord op arg) = true := by
  have : commandWord op arg &&& mask = pattern := by
    rw [hm, hp, ← h]
    unfold commandWord
    rw [BitVec.and_append]
    simp
  simp [OpcodeRow.hasWord, this]

theorem setf (arg : Arg) : Statement (.setf arg) := fun _ =>
  ⟨_, List.mem_of_getElem? (i := 0) rfl, rfl, hasWord_commandWord _ _ _ _ _ (by decide) (by decide) (by decide)⟩

theorem start (arg : Arg) : Statement (.start arg) := fun _ =>
  ⟨_, List.mem_of_getElem? (i := 1) rfl, rfl, hasWord_commandWord _ _ _ _ _ (by decide) (by decide) (by decide)⟩

theorem stop (arg : Arg) : Statement (.stop arg) := fun _ =>
  ⟨_, List.mem_of_getElem? (i := 2) rfl, rfl, hasWord_commandWord _ _ _ _ _ (by decide) (by decide) (by decide)⟩

theorem getf (arg : Arg) : Statement (.getf arg) := fun _ =>
  ⟨_, List.mem_of_getElem? (i := 3) rfl, rfl, hasWord_commandWord _ _ _ _ _ (by decide) (by decide) (by decide)⟩

theorem isrun (arg : Arg) : Statement (.isrun arg) := fun _ =>
  ⟨_, List.mem_of_getElem? (i := 4) rfl, rfl, hasWord_commandWord _ _ _ _ _ (by decide) (by decide) (by decide)⟩

theorem update : Statement .update := fun _ => ⟨rfl, rfl⟩

theorem illegalOp0 (arg : Arg) : Statement (.illegalOp0 arg) := fun _ =>
  ⟨_, List.mem_of_getElem? (i := 5) rfl, rfl, hasWord_commandWord _ _ _ _ _ (by decide) (by decide) (by decide)⟩

theorem illegalOp6To7 (op : Op) (arg : Arg) : Statement (.illegalOp6To7 op arg) := fun h =>
  have fits : ∀ o : Op, opIn6To7 o = true → o &&& commandOp 0xE00000000#36 = commandOp 0x600000000#36 := by decide
  ⟨_, List.mem_of_getElem? (i := 6) rfl, rfl, hasWord_commandWord _ _ _ _ _ (by decide) (by decide) (fits op h)⟩

theorem illegalOp8To15 (op : Op) (arg : Arg) : Statement (.illegalOp8To15 op arg) := fun h =>
  have fits : ∀ o : Op, opIn8To15 o = true → o &&& commandOp 0x800000000#36 = commandOp 0x800000000#36 := by decide
  ⟨_, List.mem_of_getElem? (i := 7) rfl, rfl, hasWord_commandWord _ _ _ _ _ (by decide) (by decide) (fits op h)⟩

end Sys2Proof.Laws.EncodesInRow
end

