-- ==== Sys2Proof/Laws/Run.lean ====
section
/-! SUPPORT. Run.lean: runs of the host's interface over this machine, one step at a time, and the induction over a run
packaged once. -/

namespace Sys2Proof.Machine

/-- A run of no step. -/
theorem run_zero (s : State) : Host.Core.run Sys2Proof.core 0 s = .next s := rfl

/-- A run whose first step gives a next state goes on from it. -/
theorem run_succ (k : Nat) (s t : State) (h : step s = .next t) :
    Host.Core.run Sys2Proof.core (k + 1) s = Host.Core.run Sys2Proof.core k t := by
  have h' : Sys2Proof.core.step s = .next t := h
  simp only [Host.Core.run, h']

/-- What holds of a state, and of the next state of every state it holds of, holds at the end of every run; and the run
ends in a next state if every such state has one. -/
theorem run_induction (P : State → Prop) (hs : ∀ s, P s → ∃ t, step s = .next t ∧ P t) (k : Nat) (s : State) (h : P s) :
    ∃ t : State, Host.Core.run Sys2Proof.core k s = .next t ∧ P t := by
  induction k generalizing s with
  | zero => exact ⟨s, run_zero s, h⟩
  | succ k ih =>
    obtain ⟨u, hu, pu⟩ := hs s h
    obtain ⟨t, ht, pt⟩ := ih u pu
    exact ⟨t, (run_succ k s u hu).trans ht, pt⟩

end Sys2Proof.Machine
end

