-- ==== Sys2Proof/Tests/Slice0.lean ====
section
/-! SUPPORT. Slice0.lean: tests of the model against the spec's worked vectors (`95_test_vectors.md`, cited by family), the
smoke test of WellFormed, and for every statement with hypotheses a witness that meets them. -/

-- The theorems are checked in turn, not each in a thread of its own.
set_option Elab.async false

namespace Sys2Proof.Tests

open Sys2Proof.Machine Sys2Proof.Safety

/-! ## Helpers -/

/-- A state of the default machine with these registers, in the order of the vectors' notation FREQ/INC/PHASE/RUN/CP,
and these input cycles. -/
def mk (freq inc phase : Nat) (run cp : Bool) (ins : List InPins) : State :=
  { State.reset with
    freq := BitVec.ofNat 32 freq, inc := BitVec.ofNat 18 inc, phase := BitVec.ofNat 19 phase, run := run,
    carrierPending := cp, inputs := ins }

/-- The outcome is a next state with these registers and this trace. -/
def gives (o : Result) (freq inc phase : Nat) (run cp : Bool) (trace : List Output) : Bool :=
  match o with
  | .next t => t.freq.toNat == freq && t.inc.toNat == inc && t.phase.toNat == phase && t.run == run &&
      t.carrierPending == cp && t.trace == trace
  | _ => false

/-- The outcome is a next state whose ports satisfy the check. -/
def shows (o : Result) (check : OutPins → Bool) : Bool :=
  match o with
  | .next t => check t.pins
  | _ => false

/-- A successful response with this data. -/
def okData (d : Nat) : Output := .response ⟨.ok, BitVec.ofNat 32 d⟩

/-! ## WellFormed: an ill-formed term for each check -/

theorem test_wellFormed_refuses_op5_in_row_6_7 : (Instr.illegalOp6To7 5#4 0#32).wellFormed = false := by decide

theorem test_wellFormed_refuses_op7_in_row_8_15 : (Instr.illegalOp8To15 7#4 0#32).wellFormed = false := by decide

/-! ## Decoding: words written out from the encoding of R62, R64, R65, R70 (family E) -/

theorem test_decode_setf : decodeCommand (0b0001#4 ++ 0b00000000000000000001001110001000#32) = .setf 5000#32 := by decide

theorem test_decode_setf_negative :
    decodeCommand 0x1FFFFEC78#36 = .setf 0xFFFFEC78#32 ∧ (0xFFFFEC78#32).toInt = -5000 := by decide

theorem test_decode_start : decodeCommand (0b0010#4 ++ 0xDEADBEEF#32) = .start 0xDEADBEEF#32 := by decide

theorem test_decode_stop : decodeCommand (0b0011#4 ++ 0#32) = .stop 0#32 := by decide

theorem test_decode_getf : decodeCommand (0b0100#4 ++ 0#32) = .getf 0#32 := by decide

theorem test_decode_isrun : decodeCommand (0b0101#4 ++ 0#32) = .isrun 0#32 := by decide

theorem test_decode_update : decodeTick 0b1#1 = .ok .update ∧ decodeTick 0b0#1 = .error .noCall := by decide

theorem test_decode_illegal_op0 : decodeCommand (0b0000#4 ++ 0#32) = .illegalOp0 0#32 := by decide

theorem test_decode_illegal_op6_7 :
    decodeCommand (0b0110#4 ++ 0#32) = .illegalOp6To7 6#4 0#32 ∧
    decodeCommand (0b0111#4 ++ 1#32) = .illegalOp6To7 7#4 1#32 := by decide

theorem test_decode_illegal_op8_15 :
    decodeCommand (0b1000#4 ++ 0#32) = .illegalOp8To15 8#4 0#32 ∧
    decodeCommand 0xFFFFFFFFF#36 = .illegalOp8To15 15#4 0xFFFFFFFF#32 := by decide

theorem test_decode_refuses_bits_off_the_port :
    decodeBits 40 0x1000000000 = .error .notOnPort ∧ decodeBits 8 2 = .error .notOnPort ∧
    decodeBits 16 1 = .error .notOnPort := by decide

theorem test_encode_words :
    encode (.setf 50100#32) = .command 0x10000C3B4#36 ∧ encode (.start 0#32) = .command 0x200000000#36 ∧
    encode .update = .tick 1#1 ∧ encode (.illegalOp8To15 9#4 7#32) = .command 0x900000007#36 := by decide

theorem test_assembler_words :
    AsmCommand.word (.setf (-5000)) = 0x1FFFFEC78#36 ∧ AsmCommand.word .isrun = 0x500000000#36 ∧
    AsmEvent.status.pins = [commandOnly 0x400000000#36, commandOnly 0x500000000#36] := by decide

/-! ## Pure functions (families T, L, B, A, M) -/

theorem test_table_entries :
    romReadMod Config.sineTable1000 1 = 509 ∧ romReadMod Config.sineTable1000 45 = 854 ∧
    romReadMod Config.sineTable1000 240 = 67 ∧ romReadMod Config.sineTable1000 359 = 491 := by decide +kernel

/-- The set of R5's values with these entries of its table replaced. -/
def withEntries (l : List (Nat × Nat)) : Config.ParamSet :=
  { Config.defaultParamSet with table := l.foldl (fun t e => t.set e.1 e.2) Config.sineDegrees }

/-- Elaboration refuses the set for its table. -/
def refusesTable (q : Config.ParamSet) : Bool :=
  match elaborate q with
  | .error .table => true
  | _ => false

/-- A table with every property of R43 whose ROM[1] is not the rounding of 508.726 (R41). -/
theorem test_elaborate_refuses_entry_1_of_510 :
    refusesTable (withEntries [(1, 510), (179, 510), (181, 490), (359, 490)]) = true := by decide +kernel

/-- A table with every property of R43 whose ROM[45] is not the rounding of 853.553 (R41). -/
theorem test_elaborate_refuses_entry_45_of_855 :
    refusesTable (withEntries [(45, 855), (135, 855), (225, 145), (315, 145)]) = true := by decide +kernel

/-- DUTY_MAX = 4 with its own table: the rounding of 2 · (sin(2π · i / 360) + 1) is 2, 3, 4 as sin passes 1/4 (between
14° and 15°) and 3/4 (between 48° and 49°). -/
def tableOf4 : List Nat :=
  List.replicate 15 2 ++ List.replicate 34 3 ++ List.replicate 83 4 ++ List.replicate 34 3 ++ List.replicate 29 2 ++
  List.replicate 34 1 ++ List.replicate 83 0 ++ List.replicate 34 1 ++ List.replicate 14 2

theorem test_elaborate_admits_duty_max_4 :
    refusesTable { Config.defaultParamSet with dutyMax := 4, table := tableOf4 } = false ∧
    refusesTable { Config.defaultParamSet with dutyMax := 4, table := tableOf4.set 0 3 } = true := by decide +kernel

theorem test_lookup_edges :
    lookup Config.sineTable1000 833 = 500 ∧ lookup Config.sineTable1000 834 = 509 ∧
    lookup Config.sineTable1000 299166 = 483 ∧ lookup Config.sineTable1000 299999 = 491 := by decide +kernel

theorem test_apply_ties_and_clamp :
    applyBoost 250 5000 10 1000 = 263 ∧ applyBoost 953 5000 10 1000 = 1000 ∧ applyBoost 3 100 20 1000 = 4 ∧
    applyBoost 999 9999 10 1000 = 999 ∧ applyBoost 500 10000 10 1000 = 500 ∧ applyBoost 1000 100 0 1000 = 1000 := by
  decide

theorem test_advance_edges :
    advance 270000 30000 = 0 ∧ advance 269999 30000 = 299999 ∧ advance 299999 150000 = 149999 := by decide

theorem test_triple_examples :
    computeTriple Config.defaultParams 5000 15000 = (688, 877, 12) ∧
    computeTriple Config.defaultParams 100 150300 = (550, 74, 1000) ∧
    computeTriple Config.defaultParams 10000 200000 = (67, 500, 933) := by decide +kernel

/-! ## Operations, one step each (family K) -/

theorem test_setf_lower_bound :
    gives (exec (.setf 100#32) (mk 10000 30000 0 false false [])) 100 300 0 false false [okData 0] = true := by decide

theorem test_setf_minus_one :
    gives (exec (.setf 0xFFFFFFFF#32) (mk 5000 15000 45000 true false [])) 5000 15000 45000 true false
      [.response ⟨.invalidFrequency, 0#32⟩] = true := by decide

theorem test_start_stopped :
    gives (exec (.start 0xDEADBEEF#32) (mk 10000 30000 60000 false false [])) 10000 30000 60000 true false
      [.driver .enable, okData 0] = true := by decide

theorem test_start_running :
    gives (exec (.start 0#32) (mk 10000 30000 0 true false [])) 10000 30000 0 true false [okData 0] = true := by decide

theorem test_stop_running :
    gives (exec (.stop 0#32) (mk 10000 30000 60000 true false [])) 10000 30000 60000 false false
      [.driver .disable, okData 0] = true := by decide

theorem test_stop_stopped :
    gives (exec (.stop 0#32) (mk 10000 30000 60000 false false [])) 10000 30000 60000 false false [okData 0] = true := by
  decide

theorem test_getf :
    gives (exec (.getf 0xFFFFFFFF#32) (mk 50000 150000 0 false false [])) 50000 150000 0 false false
      [okData 50000] = true := by decide

theorem test_isrun :
    gives (exec (.isrun 0#32) (mk 5000 15000 45000 true false [])) 5000 15000 45000 true false [okData 1] = true := by
  decide

theorem test_update_boosted :
    gives (exec .update (mk 5000 15000 0 true false [])) 5000 15000 15000 true false
      [.driver (.setOutputs 688 877 12)] = true := by decide +kernel

theorem test_update_wraps :
    gives (exec .update (mk 10000 30000 270000 true false [])) 10000 30000 0 true false
      [.driver (.setOutputs 500 933 67)] = true := by decide +kernel

theorem test_illegal_op0 :
    shows (exec (.illegalOp0 0#32) (mk 10000 30000 0 true false [])) (fun o => o.rsp == some 0x200000000#34) = true := by
  decide

theorem test_illegal_op6 :
    gives (exec (.illegalOp6To7 6#4 0#32) (mk 10000 30000 0 true false [])) 10000 30000 0 true false
      [.response ⟨.illegalCommand, 0#32⟩] = true := by decide

theorem test_illegal_op15 :
    gives (exec (.illegalOp8To15 15#4 0xFFFFFFFF#32) (mk 10000 30000 0 true false [])) 10000 30000 0 true false
      [.response ⟨.illegalCommand, 0#32⟩] = true := by decide

/-! ## Cycles (programs P3 and P5, one cycle each) -/

/-- P3 cycle 11: STOP with a tick. -/
theorem test_cycle_stop_and_tick :
    gives (step (mk 100 300 150300 true false [⟨false, true, true, 0x300000000#36⟩])) 100 300 150600 false false
      [.driver (.setOutputs 550 74 1000), .driver .disable, okData 0] = true := by decide +kernel

/-- P3 cycle 14: SETF with a tick uses the old pair for the tick. -/
theorem test_cycle_setf_and_tick :
    gives (step (mk 100 300 150600 true false [⟨false, true, true, 0x1000061A8#36⟩])) 25000 75000 150900 true false
      [.driver (.setOutputs 540 78 1000), okData 0] = true := by decide +kernel

/-- P5 cycle 3: a reset with STOP and a tick presented. -/
theorem test_cycle_reset :
    gives (step (mk 5000 15000 30000 true false [⟨true, true, true, 0x300000000#36⟩])) 10000 30000 0 false true
      [] = true := by decide

/-- The first cycle after reset shows the carrier strobe alone. -/
theorem test_cycle_carrier :
    shows (step State.reset) (fun o => o.carrier.isSome && o.rsp.isNone && o.duties.isNone && !o.enable && !o.disable)
      = true := by decide

/-! ## Witnesses: states and operands that meet the statements' hypotheses -/

/-- A legal running state at 5 Hz, mid turn. -/
def running : State := mk 5000 15000 45000 true false []

theorem inv_running : Inv running := ⟨by decide, by decide, by decide, by decide, by decide⟩

/-- The same with other input cycles. -/
theorem inv_running_inputs (ins : List InPins) : Inv { running with inputs := ins } :=
  ⟨inv_running.freq_min, inv_running.freq_max, inv_running.inc_eq, inv_running.phase_lt, inv_running.phase_mod⟩

theorem elaborated_running : Elaborated running := by
  unfold Elaborated; decide +kernel

theorem witness_DecodeAndEncodeAgree :
    (Instr.illegalOp6To7 6#4 1#32).wellFormed = true ∧ (Instr.illegalOp8To15 15#4 1#32).wellFormed = true ∧
    (Instr.setf 1#32).wellFormed = true := by decide

theorem witness_AdvanceIsSumModuloTurn : (299999 < 300000 ∧ 300 ≤ 150000 ∧ 150000 ≤ 150000) ∧ 0 < 300000 ∧ 300 ≤ 300 := by
  decide

theorem witness_WrapIsReductionModuloTurn : 499999 ≤ 499999 ∧ 0 < 300000 ∧ 299999 < 300000 := by decide

theorem witness_angles_of_one_turn : 0 < 300000 ∧ 299999 < 300000 := by decide

theorem witness_ApplyEqualsRationalForm : (9999 < 10000 ∧ 10 ≠ 0) ∧ 10000 ≤ 10000 := by decide

theorem witness_ApplyIsMonotone :
    1000 ≤ 1000 ∧ (10000 ≤ 10000 ∨ 10 = 0 ∨ 953 = 0) ∧ 952 ≤ 953 ∧ 9999 ≤ 10000 ∧ 9 ≤ 10 := by decide

theorem witness_IncrementIsExactRadians :
    (100 ≤ (100#32).toInt ∧ (100#32).toInt ≤ 50000) ∧ 100 ≤ (50000#32).toInt ∧ (50000#32).toInt ≤ 50000 := by decide

theorem witness_DutiesStayInRange : paramsLegal Config.defaultParams = true ∧ 299999 < 300000 := by decide +kernel

/-- One set for each clause of R6, the clauses before it kept. -/
theorem witness_RefusedParameterSets :
    ({ Config.defaultParamSet with tableSize := 361 } : Config.ParamSet).tableSize ≠ 360 ∧
    (Config.defaultParamSet.tableSize = 360 ∧
      ({ Config.defaultParamSet with tickHz := 101 } : Config.ParamSet).tickHz ≠ 100) ∧
    (Config.defaultParamSet.tickHz = 100 ∧
      (({ Config.defaultParamSet with dutyMax := 1002 } : Config.ParamSet).dutyMax % 4 ≠ 0 ∧
        ({ Config.defaultParamSet with dutyMax := 0 } : Config.ParamSet).dutyMax < 4 ∧
        65532 < ({ Config.defaultParamSet with dutyMax := 65536 } : Config.ParamSet).dutyMax)) ∧
    ((Config.defaultParamSet.dutyMax % 4 = 0 ∧ 4 ≤ Config.defaultParamSet.dutyMax ∧
        Config.defaultParamSet.dutyMax ≤ 65532) ∧
      ({ Config.defaultParamSet with boostPercent := -1 } : Config.ParamSet).boostPercent < 0 ∧
      20 < ({ Config.defaultParamSet with boostPercent := 21 } : Config.ParamSet).boostPercent) ∧
    ((0 ≤ Config.defaultParamSet.boostPercent ∧ Config.defaultParamSet.boostPercent ≤ 20) ∧
      300000 ≤ 3 * ({ Config.defaultParamSet with freqMax := 100000 } : Config.ParamSet).freqMax) ∧
    3 * Config.defaultParamSet.freqMax < 300000 ∧
    ({ Config.defaultParamSet with freqDefault := 99 } : Config.ParamSet).freqDefault < 100 ∧
    ({ Config.defaultParamSet with freqMax := 9999 } : Config.ParamSet).freqMax < 10000 := by decide

theorem witness_ElaborationAdmitsExactly :
    (match elaborate Config.defaultParamSet with
      | .ok _ => true
      | .error _ => false) = true := by decide +kernel

theorem witness_AdmittedTablesAreRoundedSines :
    paramsLegal Config.defaultParams = true ∧ ∃ s, elaborate Config.defaultParamSet = .ok s := by
  refine ⟨by decide +kernel, ?_⟩
  have hw := witness_ElaborationAdmitsExactly
  revert hw
  cases elaborate Config.defaultParamSet with
  | ok s => exact fun _ => ⟨s, rfl⟩
  | error e => exact fun hw => absurd hw (by simp)

theorem witness_TableCheckIsExact : (4 % 4 = 0 ∧ 4 ≤ 4) ∧ 65532 % 4 = 0 ∧ 65532 ≤ 65532 := by decide

theorem witness_ResetCycle :
    ({ running with inputs := [⟨true, true, true, 0#36⟩, ⟨true, false, false, 0#36⟩] } : State).inputs =
      [⟨true, true, true, 0#36⟩, ⟨true, false, false, 0#36⟩] := rfl

theorem witness_Setf_clauses :
    (100 ≤ (100#32).toInt ∧ (50000#32).toInt ≤ 50000) ∧ (99#32).toInt < 100 ∧ 50000 < (50001#32).toInt := by decide

/-- A SETF that succeeds, then an UPDATE, a STOP and two SETFs that are rejected. -/
theorem witness_GetfAnswersLastSetf :
    (100 ≤ (5000#32).toInt ∧ (5000#32).toInt ≤ 50000) ∧
    ∀ a : Arg, Instr.setf a ∈ [.update, .stop 0#32, .setf 99#32, .setf 50001#32] → a.toInt < 100 ∨ 50000 < a.toInt := by
  refine ⟨by decide, fun a ha => ?_⟩
  simp only [List.mem_cons, reduceCtorEq, false_or, Instr.setf.injEq, List.not_mem_nil, or_false] at ha
  rcases ha with rfl | rfl <;> decide

theorem witness_run_clauses : running.run = true ∧ (mk 5000 15000 45000 false false []).run = false := by decide

theorem witness_Update : (mk 50000 150000 299997 true false []).run = true ∧
    (mk 50000 150000 299997 true false []).phase.toNat < 300000 := by decide

theorem witness_ReservedOps :
    (commandOp 0x000000000#36).toNat = 0 ∧ 6 ≤ (commandOp 0x600000000#36).toNat ∧
    6 ≤ (commandOp 0xFFFFFFFFF#36).toNat := by decide

theorem witness_IgnoredArguments : (0x2#4 : Op) ≠ 0x1#4 ∧ (0xF#4 : Op) ≠ 0x1#4 := by decide

theorem witness_ErrorsAreExactlyTwo :
    (commandOp 0x100000063#36 = 0x1#4 ∧ (commandArg 0x100000063#36).toInt < 100) ∧
    (commandOp 0x10000C351#36 = 0x1#4 ∧ 50000 < (commandArg 0x10000C351#36).toInt) ∧
    commandOp 0x000000001#36 = 0x0#4 ∧ 6 ≤ (commandOp 0x600000001#36).toNat := by decide

/-- A table that differs from R42's at index 200, which the UPDATE of this state does not read. -/
theorem witness_OnlyUpdateReadsThreeEntries :
    (mk 5000 15000 0 true false []).phase.toNat < 300000 ∧ (mk 5000 15000 0 true false []).run = true ∧
    (∀ k ∈ [0, 120, 240],
      romReadMod (Config.sineTable1000.set 200 7) (3 * advancedPhase (mk 5000 15000 0 true false []) / 2500 + k) =
        romReadMod (mk 5000 15000 0 true false []).cfg.table
          (3 * advancedPhase (mk 5000 15000 0 true false []) / 2500 + k)) ∧
    romReadMod (Config.sineTable1000.set 200 7) 200 ≠ romReadMod Config.sineTable1000 200 := by decide +kernel

theorem witness_ConstantsNeverChange : ∃ t, step running = .next t := ⟨_, rfl⟩

theorem witness_StepRunsDecodedOperations :
    decode (.command (commandOnly 0x400000000#36).cmd) = .ok (.getf 0#32) ∧
    ((commandOnly 0x400000000#36).rst = false ∧ (commandOnly 0x400000000#36).tick = false ∧
      (commandOnly 0x400000000#36).cmdValid = true) ∧
    (tickOnly.rst = false ∧ tickOnly.tick = true ∧ tickOnly.cmdValid = false) ∧
    (InPins.idle.rst = false ∧ InPins.idle.tick = false ∧ InPins.idle.cmdValid = false) := by decide

theorem witness_StepRunsDecodedPair :
    ∃ t, exec .update (carrierPhase (State.acceptEdge
      { running with inputs := [⟨false, true, true, 0x400000000#36⟩] })) = .next t := ⟨_, rfl⟩

theorem witness_PlacedWordRunsNext :
    decodeTableWord 40 0x100001388 = some (.setf 5000#32) ∧ decodeTableWord 8 1 = some .update := by decide

theorem witness_IdleCycleChangesNothing :
    ({ running with inputs := [InPins.idle] } : State).carrierPending = false ∧ running.inputs = [] := ⟨rfl, rfl⟩

theorem witness_CycleOutputsInOrder :
    ({ running with inputs := [⟨false, true, true, 0x300000000#36⟩] } : State).inputs =
      [⟨false, true, true, 0x300000000#36⟩] ∧
    ({ running with inputs := [⟨true, true, true, 0x300000000#36⟩] } : State).inputs =
      [⟨true, true, true, 0x300000000#36⟩] := ⟨rfl, rfl⟩

theorem witness_StepKeepsRegisterRules : Inv { running with inputs := [tickOnly] } ∧
    ∃ t, step { running with inputs := [tickOnly] } = .next t := ⟨inv_running_inputs _, _, rfl⟩

/-- A trace with one legal triple. -/
def runningTraced : State :=
  { running with inputs := [tickOnly], trace := [.driver (.setOutputs 1000 0 500), okData 0] }

theorem witness_StepKeepsTraceLegal :
    Inv runningTraced ∧ Elaborated runningTraced ∧ TraceLegal runningTraced ∧ ∃ t, step runningTraced = .next t :=
  ⟨⟨inv_running.freq_min, inv_running.freq_max, inv_running.inc_eq, inv_running.phase_lt, inv_running.phase_mod⟩,
    elaborated_running,
    fun c hc => by
      have hc : c = .setOutputs 1000 0 500 := by simpa [driverCommands, runningTraced, okData] using hc
      subst hc
      exact ⟨by decide +kernel, by decide +kernel, by decide +kernel⟩,
    _, rfl⟩

theorem witness_CarrierCommandOncePerReset :
    (∀ p ∈ (mk 10000 30000 0 false true [tickOnly, commandOnly 0x200000000#36]).inputs.take 2, p.rst = false) ∧
    (mk 10000 30000 0 false true []).carrierPending = true ∧ 0 < 2 ∧
    (mk 10000 30000 0 false false []).carrierPending = false := by decide

theorem witness_UpdatesClosedForm :
    Inv { running with inputs := List.replicate 20 tickOnly ++ [InPins.idle] } ∧ running.run = true ∧
    running.carrierPending = false := ⟨inv_running_inputs _, rfl, rfl⟩

theorem witness_PhasePeriod : (100 ≤ 100 ∧ 100 ≤ 50000) ∧ (100 ≤ 50000 ∧ 50000 ≤ 50000) ∧ 299999 < 300000 := by decide

theorem witness_PhaseHeldAcrossStopStart :
    Inv { running with inputs := commandOnly (0x3#4 ++ 0#32) :: (List.replicate 5 tickOnly ++
      (commandOnly (0x2#4 ++ 0#32) :: tickOnly :: [])) } ∧ running.run = true := ⟨inv_running_inputs _, rfl⟩

end Sys2Proof.Tests
end

section
/-! PROOFS. The family `00_scope.md`: the increment in radians (R7), elaboration's refusals and what it admits (R6). -/

namespace Sys2Proof.Proofs.Scope

open Sys2Proof.Machine

/-! ## The increment -/

/-- R23: INC = 3 · FREQ without loss; its 18 bits hold three times every legal frequency. -/
theorem toNat_incrementOf (f : Freq) (h0 : 0 ≤ f.toInt) (h1 : f.toInt ≤ 50000) :
    ((incrementOf f).toNat : Int) = 3 * f.toInt := by
  have hmsb : f.msb = false := by simpa [BitVec.msb_eq_toInt] using h0
  have hf : f.toInt = f.toNat := BitVec.toInt_eq_toNat_of_msb hmsb
  have hlt : 3 * f.toNat < 2 ^ 18 := by omega
  rw [incrementOf, Config.countsPerMilliHertz, BitVec.toNat_ofNat, Nat.mod_eq_of_lt hlt]
  omega

/-- Settles O12: the increment is three counts per millihertz, and 300000 counts are one turn of 2π. -/
theorem incrementIsExactRadians : Obligations.IncrementIsExactRadians := by
  intro arg hmin hmax
  have hinc : ((incrementOf arg).toNat : ℝ) = 3 * (arg.toInt : ℝ) := by
    exact_mod_cast toNat_incrementOf arg (by omega) hmax
  rw [hinc]
  ring

/-! ## Elaboration: the clauses of a parameter set -/

/-- The clauses of R6 that elaboration checks before the frequencies: TABLE_SIZE, TICK_HZ, DUTY_MAX and BOOST_PERCENT
(log 10). -/
structure KeepsSizeClauses (q : Config.ParamSet) : Prop where
  tableSize_eq : q.tableSize = 360
  tickHz_eq : q.tickHz = 100
  dutyMax_mod : q.dutyMax % 4 = 0
  dutyMax_ge : 4 ≤ q.dutyMax
  dutyMax_le : q.dutyMax ≤ 65532
  boostPercent_nonneg : 0 ≤ q.boostPercent
  boostPercent_le : q.boostPercent ≤ 20

/-- The frequency constants are those of R5, the only ones the model admits (log 10). -/
structure HasR5Frequencies (q : Config.ParamSet) : Prop where
  freqMin_eq : q.freqMin = 100
  freqMax_eq : q.freqMax = 50000
  freqDefault_eq : q.freqDefault = 10000

section Elaboration

variable {q : Config.ParamSet}

/-- The check of DUTY_MAX, as elaboration writes it, passes. -/
theorem KeepsSizeClauses.dutyMax_not_refused (hk : KeepsSizeClauses q) :
    ¬ (q.dutyMax % 4 ≠ 0 ∨ q.dutyMax < 4 ∨ 65532 < q.dutyMax) := by
  obtain ⟨-, -, hmod, hge, hle, -, -⟩ := hk
  omega

/-- The check of BOOST_PERCENT, as elaboration writes it, passes. -/
theorem KeepsSizeClauses.boostPercent_not_refused (hk : KeepsSizeClauses q) :
    ¬ (q.boostPercent < 0 ∨ 20 < q.boostPercent) := by
  obtain ⟨-, -, -, -, -, hnonneg, hle⟩ := hk
  omega

/-! ## Which refusal a broken clause gives, the clauses before it kept -/

theorem elaborate_refuses_tableSize (h : q.tableSize ≠ 360) : elaborate q = .error .tableSize :=
  if_pos h

theorem elaborate_refuses_tickHz (hsize : q.tableSize = 360) (h : q.tickHz ≠ 100) :
    elaborate q = .error .tickHz := by
  simp [elaborate, Config.tableSize, Config.tickHz, hsize, h]

theorem elaborate_refuses_dutyMax (hsize : q.tableSize = 360) (htick : q.tickHz = 100)
    (h : q.dutyMax % 4 ≠ 0 ∨ q.dutyMax < 4 ∨ 65532 < q.dutyMax) : elaborate q = .error .dutyMax := by
  simp only [elaborate, Config.tableSize, Config.tickHz, hsize, htick, h, ne_eq, not_true_eq_false, if_false, if_true]

theorem elaborate_refuses_boostPercent (hsize : q.tableSize = 360) (htick : q.tickHz = 100)
    (hduty : ¬ (q.dutyMax % 4 ≠ 0 ∨ q.dutyMax < 4 ∨ 65532 < q.dutyMax))
    (h : q.boostPercent < 0 ∨ 20 < q.boostPercent) : elaborate q = .error .boostPercent := by
  simp only [elaborate, Config.tableSize, Config.tickHz, hsize, htick, hduty, h, ne_eq, not_true_eq_false, if_false,
    if_true]

/-- R6's single-wrap condition: PHASE_MOD = 3 · 1000 · TICK_HZ of such a set is 300000. -/
theorem elaborate_refuses_singleWrap (hk : KeepsSizeClauses q) (h : 300000 ≤ 3 * q.freqMax) :
    elaborate q = .error .singleWrap := by
  have hwrap : 3 * 1000 * ((100 : Nat) : Int) ≤ 3 * q.freqMax := by omega
  simp only [elaborate, Config.tableSize, Config.tickHz, hk.tableSize_eq, hk.tickHz_eq, hk.dutyMax_not_refused,
    hk.boostPercent_not_refused, hwrap, ne_eq, not_true_eq_false, if_false, if_true]

theorem elaborate_refuses_resetFrequency (hk : KeepsSizeClauses q) (hwrap : 3 * q.freqMax < 300000)
    (h : q.freqDefault < q.freqMin ∨ q.freqMax < q.freqDefault) : elaborate q = .error .resetFrequency := by
  have hwrap : ¬ 3 * 1000 * ((100 : Nat) : Int) ≤ 3 * q.freqMax := by omega
  simp only [elaborate, Config.tableSize, Config.tickHz, hk.tableSize_eq, hk.tickHz_eq, hk.dutyMax_not_refused,
    hk.boostPercent_not_refused, hwrap, h, ne_eq, not_true_eq_false, if_false, if_true]

/-! ## What elaboration admits -/

/-- A set that keeps every clause, with a table that passes the check, gives the machine in its reset state. -/
theorem elaborate_admits (hk : KeepsSizeClauses q) (hf : HasR5Frequencies q) (ht : q.table.toArray.size = 360)
    (hw : Memory.wf (keptParams q ht) = true) : elaborate q = .ok (State.resetWith (keptParams q ht)) := by
  have hwrap : ¬ 3 * 1000 * ((100 : Nat) : Int) ≤ 3 * 50000 := by decide
  have hreset : ¬ ((10000 : Int) < 100 ∨ (50000 : Int) < 10000) := by decide
  simp only [elaborate, Config.tableSize, Config.tickHz, Config.freqMin, Config.freqMax, Config.freqDefault,
    hk.tableSize_eq, hk.tickHz_eq, hk.dutyMax_not_refused, hk.boostPercent_not_refused, hf.freqMin_eq, hf.freqMax_eq,
    hf.freqDefault_eq, hwrap, hreset, ne_eq, not_true_eq_false, or_self, if_false]
  rw [dif_pos ht, if_pos hw]

/-- Elaboration inverted: a set it admits breaks no clause, and the machine is the reset state with its constants. -/
theorem of_elaborate_eq_ok {s : State} (h : elaborate q = .ok s) :
    KeepsSizeClauses q ∧ HasR5Frequencies q ∧
    ∃ ht : q.table.toArray.size = 360, Memory.wf (keptParams q ht) = true ∧ s = State.resetWith (keptParams q ht) := by
  unfold elaborate at h
  split_ifs at h with hsize htick hduty hboost hwrap hreset hfreq ht hw
  simp only [ne_eq, not_or, not_not, not_lt] at hsize htick hduty hboost hfreq
  obtain ⟨hmod, hge, hle⟩ := hduty
  obtain ⟨hmin, hmax, hdefault⟩ := hfreq
  exact ⟨⟨hsize, htick, hmod, hge, hle, hboost.1, hboost.2⟩, ⟨hmin, hmax, hdefault⟩, ht, hw,
    (Except.ok.inj h).symm⟩

/-- The constants kept of a set that keeps the clauses, with a table that passes the check, are legal. -/
theorem paramsLegal_keptParams (hk : KeepsSizeClauses q) (ht : q.table.toArray.size = 360)
    (hw : Memory.wf (keptParams q ht) = true) : paramsLegal (keptParams q ht) = true := by
  have hboost : q.boostPercent.toNat ≤ 20 := by
    have := hk.boostPercent_le
    omega
  simp only [paramsLegal, Bool.and_eq_true, beq_iff_eq, decide_eq_true_eq]
  exact ⟨⟨⟨⟨hk.dutyMax_mod, hk.dutyMax_ge⟩, hk.dutyMax_le⟩, hboost⟩, hw⟩

end Elaboration

/-! ## The obligations -/

/-- Settles O16: one refusal lemma per clause, in the order of the clauses. -/
theorem refusedParameterSets : Obligations.RefusedParameterSets := by
  intro q
  refine ⟨elaborate_refuses_tableSize, fun hsize => ⟨elaborate_refuses_tickHz hsize, fun htick =>
    ⟨elaborate_refuses_dutyMax hsize htick, fun hmod hge hle =>
      ⟨elaborate_refuses_boostPercent hsize htick (by omega), fun hnonneg hboost => ?_⟩⟩⟩⟩
  have hk : KeepsSizeClauses q := ⟨hsize, htick, hmod, hge, hle, hnonneg, hboost⟩
  exact ⟨elaborate_refuses_singleWrap hk, elaborate_refuses_resetFrequency hk⟩

/-- Settles O17: elaboration inverted one way, its admission the other; what the machine keeps is read off the reset
state. -/
theorem elaborationAdmitsExactly : Obligations.ElaborationAdmitsExactly := by
  refine fun q => ⟨⟨?admitted_keeps, ?keeps_admitted⟩, ?machine⟩
  case admitted_keeps =>
    rintro ⟨s, h⟩
    obtain ⟨⟨hsize, htick, hmod, hge, hle, hnonneg, hboost⟩, ⟨hmin, hmax, hdefault⟩, ht, hw, -⟩ :=
      of_elaborate_eq_ok h
    exact ⟨hsize, htick, hmod, hge, hle, hnonneg, hboost, hmin, hmax, hdefault, ht, hw⟩
  case keeps_admitted =>
    rintro ⟨hsize, htick, hmod, hge, hle, hnonneg, hboost, hmin, hmax, hdefault, ht, hw⟩
    exact ⟨_, elaborate_admits ⟨hsize, htick, hmod, hge, hle, hnonneg, hboost⟩ ⟨hmin, hmax, hdefault⟩ ht hw⟩
  case machine =>
    intro s h
    obtain ⟨hk, -, ht, hw, rfl⟩ := of_elaborate_eq_ok h
    exact ⟨rfl, paramsLegal_keptParams hk ht hw, rfl, Int.toNat_of_nonneg hk.boostPercent_nonneg, rfl, rfl⟩

end Sys2Proof.Proofs.Scope
end

section
/-! PROOFS. The family `10_state.md`: which operation writes which register (R22 to R27, R30), the register invariant
(R29) and the reset values (R31). -/

namespace Sys2Proof.Proofs.RegisterState

open Sys2Proof.Machine Sys2Proof.Safety

/-! ## The operations that only respond -/

theorem exec_getf (arg : Arg) (s : State) : exec (.getf arg) s = .next (s.respond .ok s.freq) := rfl

theorem exec_isrun (arg : Arg) (s : State) : exec (.isrun arg) s = .next (s.respond .ok (runWord s.run)) := rfl

theorem exec_illegalOp0 (arg : Arg) (s : State) :
    exec (.illegalOp0 arg) s = .next (s.raiseError .illegalCommand) := rfl

theorem exec_illegalOp6To7 (op : Op) (arg : Arg) (s : State) :
    exec (.illegalOp6To7 op arg) s = .next (s.raiseError .illegalCommand) := rfl

theorem exec_illegalOp8To15 (op : Op) (arg : Arg) (s : State) :
    exec (.illegalOp8To15 op arg) s = .next (s.raiseError .illegalCommand) := rfl

/-! ## Which operation writes which register -/

/-- Settles O31: each operation's inversion lemma gives the states it can leave, and the laws of State their registers. -/
theorem registerWriters : Obligations.RegisterWriters := by
  intro i s
  cases i with
  | setf arg =>
    obtain ⟨-, h⟩ | ⟨-, h⟩ := exec_setf_cases arg s
    · exact ⟨_, h, by simp⟩
    · exact ⟨_, h, by simp⟩
  | start arg =>
    obtain ⟨-, h⟩ | ⟨-, h⟩ := exec_start_cases arg s
    · exact ⟨_, h, by simp⟩
    · exact ⟨_, h, by simp⟩
  | stop arg =>
    obtain ⟨-, h⟩ | ⟨-, h⟩ := exec_stop_cases arg s
    · exact ⟨_, h, by simp⟩
    · exact ⟨_, h, by simp⟩
  | update =>
    obtain ⟨-, h⟩ | ⟨hrun, h⟩ := exec_update_cases s
    · exact ⟨_, h, by simp⟩
    · exact ⟨_, h, by simp [hrun]⟩
  | getf arg => exact ⟨_, exec_getf arg s, by simp⟩
  | isrun arg => exact ⟨_, exec_isrun arg s, by simp⟩
  | illegalOp0 arg => exact ⟨_, exec_illegalOp0 arg s, by simp⟩
  | illegalOp6To7 op arg => exact ⟨_, exec_illegalOp6To7 op arg s, by simp⟩
  | illegalOp8To15 op arg => exact ⟨_, exec_illegalOp8To15 op arg s, by simp⟩

/-- An operation other than SETF and UPDATE writes none of FREQ, INC and PHASE. -/
theorem exec_keeps_freq_inc_phase (i : Instr) (s : State) (hsetf : ∀ arg, i ≠ .setf arg) (hupdate : i ≠ .update) :
    ∃ t, exec i s = .next t ∧ t.freq = s.freq ∧ t.inc = s.inc ∧ t.phase = s.phase := by
  obtain ⟨t, ht, hpair, hphase, -⟩ := registerWriters i s
  have hkept : ¬ (t.freq ≠ s.freq ∨ t.inc ≠ s.inc) := fun h => (hpair h).elim fun arg hi => hsetf arg hi.1
  obtain ⟨hfreq, hinc⟩ := not_or.mp hkept
  exact ⟨t, ht, not_not.mp hfreq, not_not.mp hinc, not_not.mp fun h => hupdate (hphase h).1⟩

/-- R26, R45: no operation writes the constants. -/
theorem exec_cfg {i : Instr} {s t : State} (h : exec i s = .next t) : t.cfg = s.cfg := by
  obtain ⟨u, hu, -, -, -, -, hcfg, -⟩ := registerWriters i s
  cases h.symm.trans hu
  exact hcfg

/-! ## The register invariant, for the operations -/

/-- The invariant speaks of FREQ, INC and PHASE alone. -/
theorem inv_of_registers_eq {s t : State} (hs : Inv s) (hfreq : t.freq = s.freq) (hinc : t.inc = s.inc)
    (hphase : t.phase = s.phase) : Inv t := by
  obtain ⟨hmin, hmax, heq, hlt, hmod⟩ := hs
  exact ⟨hfreq ▸ hmin, hfreq ▸ hmax, by rw [hfreq, hinc, heq], hphase ▸ hlt, hphase ▸ hmod⟩

/-- FREQ and INC written together (R120, `20_memory.md` R51): a legal frequency keeps the invariant. -/
theorem inv_setFrequency {s : State} (hs : Inv s) (f : Freq) (hmin : 100 ≤ f.toInt) (hmax : f.toInt ≤ 50000) :
    Inv (s.setFrequency f) where
  freq_min := hmin
  freq_max := hmax
  inc_eq := Scope.toNat_incrementOf f (by omega) hmax
  phase_lt := hs.phase_lt
  phase_mod := hs.phase_mod

/-- PHASE advanced by INC stays in one turn and, 3 dividing INC and the turn, a multiple of 3 (R101). -/
theorem inv_setPhase_advance {s : State} (hs : Inv s) : Inv (s.setPhase (advance s.phase.toNat s.inc.toNat)) := by
  obtain ⟨hmin, hmax, heq, hlt, hmod⟩ := hs
  have hphase : (BitVec.ofNat 19 (advance s.phase.toNat s.inc.toNat)).toNat =
      (s.phase.toNat + s.inc.toNat) % 300000 := by
    rw [advance_eq _ _ hlt, toNat_ofNat_phase _ (Nat.mod_lt _ (by decide))]
  constructor
  case freq_min => exact hmin
  case freq_max => exact hmax
  case inc_eq => exact heq
  case phase_lt =>
    rw [State.setPhase_phase, hphase]
    omega
  case phase_mod =>
    rw [State.setPhase_phase, hphase]
    omega

theorem exec_setf_keeps_inv (arg : Arg) {s : State} (hs : Inv s) : ∃ t, exec (.setf arg) s = .next t ∧ Inv t := by
  obtain ⟨⟨hmin, hmax⟩, h⟩ | ⟨-, h⟩ := exec_setf_cases arg s
  · exact ⟨_, h, inv_of_registers_eq (inv_setFrequency hs arg hmin hmax) rfl rfl rfl⟩
  · exact ⟨_, h, inv_of_registers_eq hs rfl rfl rfl⟩

theorem exec_update_keeps_inv {s : State} (hs : Inv s) : ∃ t, exec .update s = .next t ∧ Inv t := by
  obtain ⟨-, h⟩ | ⟨-, h⟩ := exec_update_cases s
  · exact ⟨s, h, hs⟩
  · exact ⟨_, h, inv_of_registers_eq (inv_setPhase_advance hs) rfl rfl rfl⟩

/-- Only SETF and UPDATE write a register the invariant speaks of. -/
theorem exec_keeps_inv (i : Instr) {s : State} (hs : Inv s) : ∃ t, exec i s = .next t ∧ Inv t := by
  by_cases hsetf : ∃ arg, i = .setf arg
  · obtain ⟨arg, rfl⟩ := hsetf
    exact exec_setf_keeps_inv arg hs
  by_cases hupdate : i = .update
  · subst hupdate
    exact exec_update_keeps_inv hs
  obtain ⟨t, ht, hfreq, hinc, hphase⟩ := exec_keeps_freq_inc_phase i s (not_exists.mp hsetf) hupdate
  exact ⟨t, ht, inv_of_registers_eq hs hfreq hinc hphase⟩

/-! ## The parts of a step -/

theorem carrierPhase_keeps_inv {s : State} (hs : Inv s) : Inv (carrierPhase s) := by
  obtain ⟨-, h⟩ | ⟨-, h⟩ := carrierPhase_cases s
  · rw [h]
    exact inv_of_registers_eq hs rfl rfl rfl
  · rw [h]
    exact hs

theorem carrierPhase_cfg (s : State) : (carrierPhase s).cfg = s.cfg := by
  obtain ⟨-, h⟩ | ⟨-, h⟩ := carrierPhase_cases s
  · rw [h]
    rfl
  · rw [h]

section StepKeeps

variable {P : State → Prop} {s : State}

/-- What every operation keeps, the tick of a cycle keeps. -/
theorem tickPhase_keeps (hexec : ∀ i s, P s → ∃ t, exec i s = .next t ∧ P t) (tick : Bool) (h : P s) :
    ∃ t, tickPhase tick s = .next t ∧ P t := by
  cases tick with
  | false => exact ⟨s, tickPhase_false s, h⟩
  | true => exact hexec .update s h

/-- What every operation keeps, the command of a cycle keeps. -/
theorem commandPhase_keeps (hexec : ∀ i s, P s → ∃ t, exec i s = .next t ∧ P t) (valid : Bool) (w : CommandWord)
    (h : P s) : ∃ t, commandPhase valid w s = .next t ∧ P t := by
  cases valid with
  | false => exact ⟨s, commandPhase_false w s, h⟩
  | true => exact hexec (decodeCommand w) s h

/-- What the edge, a reset, the carrier command and every operation keep, a step keeps, and it leads to a next state. -/
theorem step_keeps (hedge : ∀ s, P s → P s.acceptEdge) (hreset : ∀ s, P s → P s.resetRegisters)
    (hcarrier : ∀ s, P s → P (carrierPhase s)) (hexec : ∀ i s, P s → ∃ t, exec i s = .next t ∧ P t) (h : P s) :
    ∃ t, step s = .next t ∧ P t := by
  have hcarried : P (carrierPhase s.acceptEdge) := hcarrier _ (hedge s h)
  cases hin : s.inputs with
  | nil => exact ⟨_, step_of_no_inputs s hin, hcarried⟩
  | cons p rest =>
    cases hrst : p.rst with
    | true => exact ⟨_, step_of_rst s p rest hin hrst, hreset _ (hedge s h)⟩
    | false =>
      obtain ⟨u, hu, pu⟩ := tickPhase_keeps hexec p.tick hcarried
      rw [step_of_not_rst s p rest hin hrst, hu, andThen_next]
      exact commandPhase_keeps hexec p.cmdValid p.cmd pu

end StepKeeps

/-! ## The reset state -/

/-- Settles O42: the numbers of R31 meet R29. -/
theorem resetKeepsRegisterRules : Obligations.ResetKeepsRegisterRules := fun p => by
  constructor
  case freq_min => exact (by decide : 100 ≤ (10000#32).toInt)
  case freq_max => exact (by decide : (10000#32).toInt ≤ 50000)
  case inc_eq => exact (by decide : ((30000#18).toNat : Int) = 3 * (10000#32).toInt)
  case phase_lt => exact (by decide : (0#19).toNat < 300000)
  case phase_mod => exact (by decide : (0#19).toNat % 3 = 0)

/-- R160: a reset puts the registers at legal values from any state. -/
theorem inv_resetRegisters (s : State) : Inv s.resetRegisters :=
  inv_of_registers_eq (resetKeepsRegisterRules s.cfg) rfl rfl rfl

/-- R5, R6: the set of R5's values is admitted and gives the machine in its reset state. -/
theorem elaborate_defaultParamSet : elaborate Config.defaultParamSet = .ok State.reset :=
  have hsize : Config.defaultParamSet.table.toArray.size = 360 := Config.sineTable1000.size_toArray
  Scope.elaborate_admits ⟨rfl, rfl, rfl, by decide, by decide, by decide, by decide⟩ ⟨rfl, rfl, rfl⟩ hsize
    defaultParams_wf

/-- Settles O18: the reset states hold R31's values by their definition; that R5's set gives one is its admission. -/
theorem resetValues : Obligations.ResetValues :=
  ⟨fun _ => ⟨rfl, rfl, rfl, rfl, rfl, rfl⟩, rfl, rfl, rfl, elaborate_defaultParamSet, fun _ => rfl⟩

/-! ## Steps and runs -/

/-- A step from legal registers leads to a state with legal registers and the same constants. -/
theorem step_keeps_inv_cfg (p : Config.Params) (s : State) (h : Inv s ∧ s.cfg = p) :
    ∃ t, step s = .next t ∧ Inv t ∧ t.cfg = p := by
  refine step_keeps (P := fun s => Inv s ∧ s.cfg = p) ?edge ?reset ?carrier ?exec h
  case edge => exact fun s ⟨hs, hcfg⟩ => ⟨inv_of_registers_eq hs rfl rfl rfl, hcfg⟩
  case reset => exact fun s ⟨_, hcfg⟩ => ⟨inv_resetRegisters s, hcfg⟩
  case carrier => exact fun s ⟨hs, hcfg⟩ => ⟨carrierPhase_keeps_inv hs, (carrierPhase_cfg s).trans hcfg⟩
  case exec =>
    intro i s ⟨hs, hcfg⟩
    obtain ⟨t, ht, hinv⟩ := exec_keeps_inv i hs
    exact ⟨t, ht, hinv, (exec_cfg ht).trans hcfg⟩

/-- Settles O43: the one state a step leads to is the one found legal. -/
theorem stepKeepsRegisterRules : Obligations.StepKeepsRegisterRules := by
  intro s t hs hstep
  obtain ⟨u, hu, hinv, -⟩ := step_keeps_inv_cfg s.cfg s ⟨hs, rfl⟩
  cases hstep.symm.trans hu
  exact hinv

/-- Settles O44: the induction over a run, from the reset state. -/
theorem reachableStatesAreLegal : Obligations.ReachableStatesAreLegal := by
  intro p ins k
  have hreset : Inv { State.resetWith p with inputs := ins } :=
    inv_of_registers_eq (resetKeepsRegisterRules p) rfl rfl rfl
  exact run_induction (fun s => Inv s ∧ s.cfg = p) (step_keeps_inv_cfg p) k _ ⟨hreset, rfl⟩

end Sys2Proof.Proofs.RegisterState
end

section
/-! PROOFS. The family `20_memory.md`: the sine table is the rounded sine (R41 to R43), who reads it and where (R44,
R49), and nothing writes it (R45). -/

namespace Sys2Proof.Proofs.SineTable

open Sys2Proof.Machine Sys2Proof.Safety
open Complex (I)

/-! ## A point on the unit circle, turned degree by degree -/

/-- A grain of the fine grid: the points below are in units of 10⁻¹⁸. -/
def fineUnit : ℕ := 10 ^ 18

/-- exp(i · 1°) on the fine grid, cut off towards zero. -/
def fineDegree : GaussianInt := ⟨999847695156391239, 17452406437283512⟩

/-- A point of the fine grid turned by 1°, to the nearest point. -/
def turnDegree (z : GaussianInt) : GaussianInt := z * fineDegree / (fineUnit : GaussianInt)

/-- The point at 0° turned n times: exp(i · n°) on the fine grid. -/
def finePoint : ℕ → GaussianInt
  | 0 => (fineUnit : GaussianInt)
  | n + 1 => turnDegree (finePoint n)

/-- A list of raised sines agrees with the heights of successive points, the first of them z, within 6000 of the 10⁴
grains that one unit of `sineUnit` is. -/
def followsPoints : GaussianInt → List ℕ → Bool
  | _, [] => true
  | z, r :: l => decide (|(r : ℤ) * 10000 - fineUnit - z.im| ≤ 6000) && followsPoints (turnDegree z) l

theorem raisedSines_follow : followsPoints (finePoint 0) raisedSines = true := by decide +kernel

theorem finePoint_of_follows {l : List ℕ} {n k r : ℕ} (h : followsPoints (finePoint n) l = true) (hr : l[k]? = some r) :
    |(r : ℤ) * 10000 - fineUnit - (finePoint (n + k)).im| ≤ 6000 := by
  induction l generalizing n k with
  | nil => simp at hr
  | cons a l ih =>
    rw [followsPoints, Bool.and_eq_true, decide_eq_true_eq] at h
    obtain ⟨ha, hl⟩ := h
    cases k with
    | zero =>
      obtain rfl : a = r := by simpa using hr
      exact ha
    | succ k =>
      have hk := ih (n := n + 1) hl hr
      rwa [Nat.add_right_comm] at hk

/-! ## How far the points are from the circle -/

/-- exp(i · 1°), on the unit circle. -/
noncomputable def unitDegree : ℂ := Complex.exp ((Real.pi / 180 : ℝ) * I)

/-- 1° in radians to 21 decimals. -/
noncomputable def degreeApprox : ℝ := 17453292519943295769 / 10 ^ 21

theorem abs_degree_sub_approx : |Real.pi / 180 - degreeApprox| ≤ 1 / 10 ^ 21 := by
  have hlo := Real.pi_gt_d20
  have hhi := Real.pi_lt_d20
  rw [degreeApprox, abs_le]
  constructor <;> linarith

/-- The arc bounds the chord. -/
theorem norm_exp_mul_I_sub_le (x y : ℝ) : ‖Complex.exp (x * I) - Complex.exp (y * I)‖ ≤ |x - y| := by
  have hturn : Complex.exp (x * I) = Complex.exp (y * I) * Complex.exp (I * (x - y : ℝ)) := by
    rw [← Complex.exp_add]
    push_cast
    ring_nf
  calc ‖Complex.exp (x * I) - Complex.exp (y * I)‖
      = ‖Complex.exp (y * I) * (Complex.exp (I * (x - y : ℝ)) - 1)‖ := by rw [hturn, mul_sub, mul_one]
    _ = ‖Complex.exp (I * (x - y : ℝ)) - 1‖ := by rw [norm_mul, Complex.norm_exp_ofReal_mul_I, one_mul]
    _ ≤ |x - y| := Real.norm_exp_I_mul_ofReal_sub_one_le

/-- Eight terms of the exponential series at 1°. -/
noncomputable def degreeSeries : ℂ := ∑ m ∈ Finset.range 8, ((degreeApprox : ℂ) * I) ^ m / m.factorial

theorem norm_exp_sub_degreeSeries : ‖Complex.exp (degreeApprox * I) - degreeSeries‖ ≤ 1 / (2 * 10 ^ 18) := by
  have hnorm : ‖(degreeApprox : ℂ) * I‖ = degreeApprox := by
    rw [norm_mul, Complex.norm_I, mul_one, Complex.norm_of_nonneg (by norm_num [degreeApprox])]
  have hbound := Complex.exp_bound (x := degreeApprox * I) (hnorm.trans_le (by norm_num [degreeApprox]))
    (n := 8) (by decide)
  rw [hnorm] at hbound
  exact hbound.trans (by norm_num [degreeApprox, Nat.factorial])

/-- Real and imaginary part of the series: the Taylor polynomials of cosine and sine. -/
theorem degreeSeries_eq : degreeSeries =
    ⟨1 - degreeApprox ^ 2 / 2 + degreeApprox ^ 4 / 24 - degreeApprox ^ 6 / 720,
      degreeApprox - degreeApprox ^ 3 / 6 + degreeApprox ^ 5 / 120 - degreeApprox ^ 7 / 5040⟩ := by
  set x : ℝ := degreeApprox
  rw [Complex.mk_eq_add_mul_I]
  simp only [degreeSeries, Finset.sum_range_succ, Finset.sum_range_zero, Nat.factorial]
  push_cast
  linear_combination (x ^ 2 / 2 + x ^ 3 / 6 * I + x ^ 4 / 24 * (I ^ 2 - 1) + x ^ 5 / 120 * (I ^ 3 - I) +
    x ^ 6 / 720 * (I ^ 4 - I ^ 2 + 1) + x ^ 7 / 5040 * (I ^ 5 - I ^ 3 + I)) * Complex.I_sq

theorem norm_fineDegree_sub_series : ‖(fineDegree : ℂ) - fineUnit * degreeSeries‖ ≤ 1 := by
  refine (Complex.norm_le_abs_re_add_abs_im _).trans ?_
  rw [degreeSeries_eq, fineDegree, GaussianInt.toComplex_def']
  norm_num [fineUnit, degreeApprox, abs_le]

theorem norm_fineDegree_sub : ‖(fineDegree : ℂ) - fineUnit * unitDegree‖ ≤ 2 := by
  have hunit : ‖unitDegree - degreeSeries‖ ≤ 1 / 10 ^ 21 + 1 / (2 * 10 ^ 18) :=
    (norm_sub_le_norm_sub_add_norm_sub _ (Complex.exp (degreeApprox * I)) _).trans
      (add_le_add ((norm_exp_mul_I_sub_le _ _).trans abs_degree_sub_approx) norm_exp_sub_degreeSeries)
  calc ‖(fineDegree : ℂ) - fineUnit * unitDegree‖
      = ‖((fineDegree : ℂ) - fineUnit * degreeSeries) - fineUnit * (unitDegree - degreeSeries)‖ := by ring_nf
    _ ≤ ‖(fineDegree : ℂ) - fineUnit * degreeSeries‖ + ‖fineUnit * (unitDegree - degreeSeries)‖ := norm_sub_le _ _
    _ ≤ 1 + 10 ^ 18 * (1 / 10 ^ 21 + 1 / (2 * 10 ^ 18)) := by
      rw [norm_mul]
      gcongr
      · exact norm_fineDegree_sub_series
      · norm_num [fineUnit]
    _ ≤ 2 := by norm_num

theorem norm_fineDegree_le : ‖(fineDegree : ℂ) / fineUnit‖ ≤ 1 := by
  have hsq : fineDegree.norm ≤ (fineUnit : ℤ) ^ 2 := by decide
  have hreal : ‖(fineDegree : ℂ)‖ ^ 2 ≤ (fineUnit : ℝ) ^ 2 := by
    rw [Complex.sq_norm, ← GaussianInt.intCast_real_norm]
    exact_mod_cast hsq
  rw [norm_div, Complex.norm_natCast]
  exact div_le_one_of_le₀ (abs_le_of_sq_le_sq' hreal (by positivity)).2 (by positivity)

/-- Rounding to the grid moves a point by less than one grain. -/
theorem norm_turnDegree_sub (z : GaussianInt) :
    ‖(turnDegree z : ℂ) - z * (fineDegree / fineUnit)‖ ≤ 1 := by
  have h := GaussianInt.normSq_div_sub_div_lt_one (z * fineDegree) (fineUnit : GaussianInt)
  rw [← Complex.sq_norm, norm_sub_rev, sq_lt_one_iff₀ (norm_nonneg _)] at h
  have hquot : (z : ℂ) * (fineDegree / fineUnit) =
      ((z * fineDegree : GaussianInt) : ℂ) / ((fineUnit : GaussianInt) : ℂ) := by
    simp [mul_div_assoc]
  rw [hquot]
  exact h.le

/-- Each turn adds at most three grains: one by rounding, two by the error of 1° itself. -/
theorem norm_finePoint_sub (n : ℕ) : ‖(finePoint n : ℂ) - fineUnit * unitDegree ^ n‖ ≤ 3 * n := by
  induction n with
  | zero => simp [finePoint]
  | succ n ih =>
    have hpow : ‖unitDegree ^ n‖ = 1 := by
      rw [norm_pow, unitDegree, Complex.norm_exp_ofReal_mul_I, one_pow]
    have hunit : (fineUnit : ℂ) ≠ 0 := by norm_num [fineUnit]
    have hsplit : (finePoint (n + 1) : ℂ) - fineUnit * unitDegree ^ (n + 1) =
        (turnDegree (finePoint n) - finePoint n * (fineDegree / fineUnit)) +
        (finePoint n - fineUnit * unitDegree ^ n) * (fineDegree / fineUnit) +
        unitDegree ^ n * (fineDegree - fineUnit * unitDegree) := by
      rw [finePoint]
      field_simp
      ring
    calc _ = _ := congrArg norm hsplit
      _ ≤ _ := norm_add₃_le
      _ ≤ 1 + 3 * n * 1 + 1 * 2 := by
        rw [norm_mul, norm_mul, hpow]
        gcongr
        · exact norm_turnDegree_sub _
        · exact norm_fineDegree_le
        · exact norm_fineDegree_sub
      _ = 3 * (n + 1 : ℕ) := by push_cast; ring

/-- The height of the point at n° is the scaled sine. -/
theorem unitDegree_pow_im (n : ℕ) : (unitDegree ^ n).im = Real.sin (2 * Real.pi * n / 360) := by
  have h : unitDegree ^ n = Complex.exp ((2 * Real.pi * n / 360 : ℝ) * I) := by
    rw [unitDegree, ← Complex.exp_nat_mul]
    push_cast
    ring_nf
  rw [h, Complex.exp_ofReal_mul_I_im]

theorem abs_finePoint_im_sub (n : ℕ) :
    |((finePoint n).im : ℝ) - fineUnit * Real.sin (2 * Real.pi * n / 360)| ≤ 3 * n := by
  have h := (Complex.abs_im_le_norm _).trans (norm_finePoint_sub n)
  rwa [Complex.sub_im, ← GaussianInt.intCast_im, ← Complex.ofReal_natCast, Complex.im_ofReal_mul,
    unitDegree_pow_im] at h

/-! ## The scaled sines -/

theorem raisedSines_length : raisedSines.length = 360 := by decide +kernel

/-- The scaled sine of an index of the table. -/
def raisedSine (i : Fin 360) : ℕ := raisedSines[(i : ℕ)]'(i.isLt.trans_eq raisedSines_length.symm)

theorem raisedSines_getElem? (i : Fin 360) : raisedSines[(i : ℕ)]? = some (raisedSine i) :=
  List.getElem?_eq_getElem _

theorem raisedSine_mem (i : Fin 360) : raisedSine i ∈ raisedSines := List.getElem_mem _

/-- The list's error and the points' add up to less than the 10⁴ grains of one unit. -/
theorem abs_raisedSine_sub (i : Fin 360) :
    |(raisedSine i : ℝ) - sineUnit * (Real.sin (2 * Real.pi * (i : ℕ) / 360) + 1)| ≤ 1 := by
  have hfollow : |(raisedSine i : ℝ) * 10000 - fineUnit - (finePoint i).im| ≤ 6000 := by
    have h := finePoint_of_follows raisedSines_follow (raisedSines_getElem? i)
    rw [Nat.zero_add] at h
    exact_mod_cast h
  have hpoint := abs_finePoint_im_sub i
  have hi : ((i : ℕ) : ℝ) ≤ 360 := by exact_mod_cast i.isLt.le
  rw [abs_le] at hfollow hpoint ⊢
  norm_num [fineUnit, sineUnit] at hfollow hpoint ⊢
  constructor <;> linarith

/-- Settles O50: every entry of the list against the point of its degree. -/
theorem scaledSinesAreSines : Obligations.ScaledSinesAreSines :=
  ⟨raisedSines_length, fun i => ⟨raisedSine i, raisedSines_getElem? i, abs_raisedSine_sub i⟩⟩

/-! ## What the check of an entry says -/

section Entry

variable {d r r' e e' : ℕ}

/-- A larger sine has no smaller entry. -/
theorem entry_le_of_raised_le (hd : 0 < d) (h : entryRounded d r e = true) (h' : entryRounded d r' e' = true)
    (hr : r ≤ r') : e ≤ e' := by
  obtain ⟨hlo, -⟩ := (entryRounded_iff d r e).mp h
  obtain ⟨-, hhi⟩ := (entryRounded_iff d r' e').mp h'
  have hmul : r * d ≤ r' * d := Nat.mul_le_mul_right d hr
  unfold sineUnit at hlo hhi
  omega

/-- One sine has one entry. -/
theorem entry_unique (hd : 0 < d) : Relator.RightUnique fun r e => entryRounded d r e = true :=
  fun _ _ _ h h' => le_antisymm (entry_le_of_raised_le hd h h' le_rfl) (entry_le_of_raised_le hd h' h le_rfl)

/-- Opposite sines have entries that add up to DUTY_MAX. -/
theorem entry_add_eq (hd : 0 < d) (h : entryRounded d r e = true) (h' : entryRounded d r' e' = true)
    (hr : r + r' = 2 * sineUnit) : e + e' = d := by
  obtain ⟨hlo, hhi⟩ := (entryRounded_iff d r e).mp h
  obtain ⟨hlo', hhi'⟩ := (entryRounded_iff d r' e').mp h'
  have hmul : r * d + r' * d = 2 * sineUnit * d := by rw [← Nat.add_mul, hr]
  unfold sineUnit at hlo hhi hlo' hhi' hmul
  omega

/-- DUTY_MAX is the entry of the sine 1, and 0 that of −1. -/
theorem entryRounded_two_units (hd : d ≤ 65532) : entryRounded d (2 * sineUnit) d = true := by
  rw [entryRounded_iff]
  unfold sineUnit
  omega

theorem entryRounded_zero (hd : d ≤ 65532) : entryRounded d 0 0 = true := by
  rw [entryRounded_iff]
  unfold sineUnit
  omega

end Entry

/-! ## What the check of the table says, list by list -/

/-- A check passes on every pair of two lists of one length. -/
theorem all_zipWith_iff_forall₂ {α β : Type} (f : α → β → Bool) {l : List α} {m : List β}
    (hlen : l.length = m.length) :
    (List.zipWith f l m).all id = true ↔ List.Forall₂ (fun a b => f a b = true) l m := by
  rw [List.all_eq_true, List.forall₂_iff_zip, and_iff_right hlen, ← List.map_uncurry_zip_eq_zipWith,
    List.forall_mem_map, Prod.forall]
  rfl

section Lists

variable {d : ℕ} {rs es rs' es' : List ℕ}

/-- The entries in a list are those of the raised sines in another, in order. -/
def EntriesOf (d : ℕ) (rs es : List ℕ) : Prop := List.Forall₂ (fun r e => entryRounded d r e = true) rs es

theorem EntriesOf.eq (hd : 0 < d) (h : EntriesOf d rs es) (h' : EntriesOf d rs es') : es = es' :=
  (entry_unique hd).forall₂ h h'

theorem EntriesOf.nonDecreasing (hd : 0 < d) : ∀ {rs es : List ℕ}, EntriesOf d rs es →
    Machine.nonDecreasing rs = true → Machine.nonDecreasing es = true
  | _, _, .nil, _ => rfl
  | _, _, .cons _ .nil, _ => rfl
  | _, _, .cons h (.cons h' hl), hr => by
    rw [Machine.nonDecreasing, Bool.and_eq_true, decide_eq_true_eq] at hr ⊢
    exact ⟨entry_le_of_raised_le hd h h' hr.1, EntriesOf.nonDecreasing hd (.cons h' hl) hr.2⟩

theorem EntriesOf.all_le (hd : 0 < d) (hmax : d ≤ 65532) (h : EntriesOf d rs es)
    (hr : rs.all (fun r => decide (r ≤ 2 * sineUnit)) = true) : es.all (fun e => decide (e ≤ d)) = true := by
  induction h with
  | nil => rfl
  | cons h _ ih =>
    rw [List.all_cons, Bool.and_eq_true, decide_eq_true_eq] at hr ⊢
    exact ⟨entry_le_of_raised_le hd h (entryRounded_two_units hmax) hr.1, ih hr.2⟩

theorem EntriesOf.all_add_eq (hd : 0 < d) (h : EntriesOf d rs es) (h' : EntriesOf d rs' es')
    (hr : (List.zipWith (· + ·) rs rs').all (· == 2 * sineUnit) = true) :
    (List.zipWith (· + ·) es es').all (· == d) = true := by
  induction h generalizing rs' es' with
  | nil => rfl
  | cons h _ ih =>
    cases h' with
    | nil => rfl
    | cons h' hl' =>
      rw [List.zipWith_cons_cons, List.all_cons, Bool.and_eq_true, beq_iff_eq] at hr ⊢
      exact ⟨entry_add_eq hd h h' hr.1, ih hl' hr.2⟩

end Lists

/-! ## A table that passes R41's check has the properties of R43 -/

section Table

variable {p : Config.Params}

/-- R41's check of a table, entry by entry. -/
theorem rounded_iff (p : Config.Params) :
    Memory.rounded p = true ↔ EntriesOf p.dutyMax raisedSines p.table.toList :=
  all_zipWith_iff_forall₂ _ (by rw [raisedSines_length, Vector.length_toList])

theorem entriesOf_raisedSines_iff (p : Config.Params) : EntriesOf p.dutyMax raisedSines p.table.toList ↔
    ∀ i : Fin 360, entryRounded p.dutyMax (raisedSine i) (romRead p.table i) = true := by
  have hlen : p.table.toList.length = 360 := Vector.length_toList
  rw [EntriesOf, List.forall₂_iff_get]
  constructor
  · rintro ⟨-, h⟩ i
    exact h i (i.isLt.trans_eq raisedSines_length.symm) (i.isLt.trans_eq hlen.symm)
  · intro h
    exact ⟨raisedSines_length.trans hlen.symm, fun i _ hi => h ⟨i, hi.trans_eq hlen⟩⟩

/-- R43 (a). -/
theorem anchors_of_entries (hd : 0 < p.dutyMax) (hmax : p.dutyMax ≤ 65532)
    (h : EntriesOf p.dutyMax raisedSines p.table.toList) : Memory.anchors p = true := by
  rw [entriesOf_raisedSines_iff] at h
  have hraised : raisedSine 0 = sineUnit ∧ raisedSine 90 = 2 * sineUnit ∧ raisedSine 270 = 0 := by decide +kernel
  obtain ⟨hraised0, hraised90, hraised270⟩ := hraised
  have hmid : romRead p.table 0 + romRead p.table 0 = p.dutyMax :=
    entry_add_eq hd (h 0) (h 0) (by rw [hraised0, two_mul])
  have hpeak : romRead p.table 90 = p.dutyMax := entry_unique hd (h 90) (hraised90 ▸ entryRounded_two_units hmax)
  have htrough : romRead p.table 270 = 0 := entry_unique hd (h 270) (hraised270 ▸ entryRounded_zero hmax)
  simp only [Memory.anchors, Bool.and_eq_true, beq_iff_eq]
  exact ⟨⟨(two_mul _).trans hmid, hpeak⟩, htrough⟩

/-- R43 (b). -/
theorem monotone_of_entries (hd : 0 < p.dutyMax) (h : EntriesOf p.dutyMax raisedSines p.table.toList) :
    Memory.monotone p = true := by
  have hrise : EntriesOf p.dutyMax (raisedSines.take 91) (p.table.toList.take 91) := List.forall₂_take 91 h
  have hfall : EntriesOf p.dutyMax ((raisedSines.drop 90).take 181).reverse
      ((p.table.toList.drop 90).take 181).reverse := List.rel_reverse (List.forall₂_take 181 (List.forall₂_drop 90 h))
  have hback : EntriesOf p.dutyMax (raisedSines.drop 270) (p.table.toList.drop 270) := List.forall₂_drop 270 h
  rw [Memory.monotone, Bool.and_eq_true, Bool.and_eq_true]
  exact ⟨⟨hrise.nonDecreasing hd (by decide +kernel), hfall.nonDecreasing hd (by decide +kernel)⟩,
    hback.nonDecreasing hd (by decide +kernel)⟩

/-- R43 (c). -/
theorem symmetric_of_entries (hd : 0 < p.dutyMax) (h : EntriesOf p.dutyMax raisedSines p.table.toList) :
    Memory.symmetric p = true := by
  have hhalf : EntriesOf p.dutyMax (raisedSines.take 181) (p.table.toList.take 181) := List.forall₂_take 181 h
  have hmirror : EntriesOf p.dutyMax (raisedSines.take 181) (p.table.toList.take 181).reverse := by
    have hsine : (raisedSines.take 181).reverse = raisedSines.take 181 := by decide +kernel
    exact hsine ▸ List.rel_reverse hhalf
  have hopposite : EntriesOf p.dutyMax (raisedSines.drop 180 ++ raisedSines.take 180)
      (p.table.toList.drop 180 ++ p.table.toList.take 180) :=
    List.rel_append (List.forall₂_drop 180 h) (List.forall₂_take 180 h)
  rw [Memory.symmetric, Bool.and_eq_true, beq_iff_eq]
  exact ⟨hmirror.eq hd hhalf, h.all_add_eq hd hopposite (by decide +kernel)⟩

/-- For a DUTY_MAX of R6, R41's check alone is the whole check of a table. -/
theorem wf_iff_entries (hd : 0 < p.dutyMax) (hmax : p.dutyMax ≤ 65532) :
    Memory.wf p = true ↔ EntriesOf p.dutyMax raisedSines p.table.toList := by
  rw [← rounded_iff]
  constructor
  · intro h
    rw [Memory.wf, Bool.and_eq_true] at h
    exact h.2
  · intro hr
    have h := (rounded_iff p).mp hr
    have hrange : Memory.entriesInRange p = true := h.all_le hd hmax (by decide +kernel)
    simp only [Memory.wf, hrange, anchors_of_entries hd hmax h, monotone_of_entries hd h, symmetric_of_entries hd h,
      hr, Bool.and_self]

end Table

/-! ## No entry of a table is close to a tie

A tie would be an odd m with m / DUTY_MAX = sin + 1. Fractions with small denominators lie far apart, so that one
fraction p / q close to the raised sine keeps every m / DUTY_MAX but p / q itself away from it; and m / DUTY_MAX is no
p / q if 4 divides DUTY_MAX but not q. -/

/-- The numerator of the fraction with denominator q that is closest to a raised sine. -/
def nearestNumerator (r q : ℕ) : ℕ := (2 * r * q + sineUnit) / (2 * sineUnit)

/-- The denominator q, not divisible by 4, has a fraction so close to the raised sine r that no odd m / DUTY_MAX is near
both. -/
def excludesTies (r q : ℕ) : Bool :=
  q % 4 != 0 && decide (65532 * (|(r : ℤ) * q - nearestNumerator r q * sineUnit| + q) < sineUnit)

/-- The denominators of the convergents of a / b, by Euclid's algorithm, after two convergents with denominators q and
q'. -/
def convergentDenominators : ℕ → (a b q q' : ℕ) → List ℕ
  | 0, _, _, _, _ => []
  | fuel + 1, a, b, q, q' =>
    if b = 0 then [] else (a / b * q' + q) :: convergentDenominators fuel b (a % b) q' (a / b * q' + q)

/-- Every raised sine has such a denominator, among those of its convergents. -/
theorem exists_excludesTies {r : ℕ} (hr : r ∈ raisedSines) : ∃ q, excludesTies r q = true := by
  have hall : raisedSines.all
      (fun r => (convergentDenominators 20 r sineUnit 1 0).any (excludesTies r)) = true := by decide +kernel
  obtain ⟨q, -, hq⟩ := List.any_eq_true.mp (List.all_eq_true.mp hall r hr)
  exact ⟨q, hq⟩

/-- The fraction p / q equals no odd m / d with 4 ∣ d. -/
theorem odd_mul_ne {m d p : ℤ} {q : ℕ} (hm : Odd m) (hd : 4 ∣ d) (hq : q % 4 ≠ 0) : m * q - d * p ≠ 0 := by
  intro h
  have hcop : IsCoprime (4 : ℤ) m := (Int.isCoprime_two_left.mpr hm).pow_left (m := 2)
  have hdvd : (4 : ℤ) ∣ q := hcop.dvd_of_dvd_mul_left (sub_eq_zero.mp h ▸ hd.mul_right p)
  omega

/-- A tie's place m / 2, halfway between two entries, is well away from the value of the sine. -/
theorem lt_abs_of_excludesTies {r q d : ℕ} (h : excludesTies r q = true) (hmod : d % 4 = 0) (hmax : d ≤ 65532)
    {m : ℤ} (hm : Odd m) : d < |m * sineUnit - r * d| := by
  rw [excludesTies, Bool.and_eq_true, bne_iff_ne, decide_eq_true_eq] at h
  obtain ⟨hq, hclose⟩ := h
  set p := nearestNumerator r q
  set δ := |(r : ℤ) * q - p * sineUnit|
  by_contra! hle
  have hsmall : |m * q - d * p| * sineUnit < sineUnit :=
    calc |m * q - d * p| * sineUnit
        = |q * (m * sineUnit - r * d) + d * (r * q - p * sineUnit)| := by
          rw [show q * (m * sineUnit - r * d) + d * (r * q - p * sineUnit) = (m * q - d * p) * (sineUnit : ℤ) by ring,
            abs_mul, Nat.abs_cast]
      _ ≤ q * |m * sineUnit - r * d| + d * δ := by
          refine (abs_add_le _ _).trans_eq ?_
          rw [abs_mul, abs_mul, Nat.abs_cast, Nat.abs_cast]
      _ ≤ q * d + d * δ := by gcongr
      _ = d * (δ + q) := by ring
      _ ≤ 65532 * (δ + q) := by
          have : (d : ℤ) ≤ 65532 := by exact_mod_cast hmax
          gcongr
      _ < sineUnit := hclose
  have hzero : |m * q - d * p| < 1 := by
    by_contra! hone
    have := le_mul_of_one_le_left (Int.natCast_nonneg sineUnit) hone
    omega
  exact odd_mul_ne hm (by omega) hq (Int.abs_lt_one_iff.mp hzero)

/-! ## The check of an entry is R41's bound -/

theorem entryRounded_iff_abs (d r e : ℕ) :
    entryRounded d r e = true ↔ |(2 * e * sineUnit - r * d : ℤ)| ≤ sineUnit - d := by
  rw [entryRounded_iff, abs_le]
  generalize sineUnit = u
  zify
  constructor
  · rintro ⟨hlo, hhi⟩
    constructor <;> linarith
  · rintro ⟨hhi, hlo⟩
    constructor <;> linarith

/-- What is near u or within it, but not close to u or to −u, is well within it. -/
theorem abs_le_sub_of_far {x u d : ℤ} (hwide : |x| ≤ u + d) (hbelow : d < |x - u|) (habove : d < |x + u|) :
    |x| ≤ u - d := by
  rw [lt_abs] at hbelow habove
  rw [abs_le] at hwide ⊢
  omega

section Exact

variable {u d r e : ℕ} {x : ℝ}

/-- The error of a raised sine in units of u, times DUTY_MAX. -/
theorem abs_raised_mul_sub (hr : |(r : ℝ) - u * (x + 1)| ≤ 1) (d : ℕ) : |(r - u * (x + 1)) * d| ≤ d := by
  rw [abs_mul, Nat.abs_cast]
  exact mul_le_of_le_one_left d.cast_nonneg hr

/-- An entry's distance from the scaled sine is its distance from the real one but for that error. -/
theorem check_le_of_exact (hr : |(r : ℝ) - u * (x + 1)| ≤ 1) (h : |(e : ℝ) - (x + 1) / 2 * d| ≤ 1 / 2) :
    |(2 * e * u - r * d : ℤ)| ≤ u + d := by
  have hreal : |(2 * e * u - r * d : ℝ)| ≤ u + d :=
    calc |(2 * e * u - r * d : ℝ)|
        = |2 * u * (e - (x + 1) / 2 * d) - (r - u * (x + 1)) * d| := by ring_nf
      _ ≤ |2 * u * (e - (x + 1) / 2 * d)| + |(r - u * (x + 1)) * d| := abs_sub _ _
      _ ≤ 2 * u * (1 / 2) + d := by
        rw [abs_mul, abs_of_nonneg (by positivity : (0 : ℝ) ≤ 2 * u)]
        gcongr
        exact abs_raised_mul_sub hr d
      _ = u + d := by ring
  exact_mod_cast hreal

/-- The margin of the check makes up for that error. -/
theorem exact_of_check_le (hu : 0 < u) (hr : |(r : ℝ) - u * (x + 1)| ≤ 1)
    (h : |(2 * e * u - r * d : ℤ)| ≤ u - d) : |(e : ℝ) - (x + 1) / 2 * d| ≤ 1 / 2 := by
  have hcheck : |(2 * e * u - r * d : ℝ)| ≤ u - d := by exact_mod_cast h
  have hscaled : 2 * u * |(e : ℝ) - (x + 1) / 2 * d| ≤ 2 * u * (1 / 2) :=
    calc 2 * u * |(e : ℝ) - (x + 1) / 2 * d|
        = |2 * u * (e - (x + 1) / 2 * d)| := by rw [abs_mul, abs_of_nonneg (by positivity : (0 : ℝ) ≤ 2 * u)]
      _ = |(2 * e * u - r * d) + (r - u * (x + 1)) * d| := by ring_nf
      _ ≤ |(2 * e * u - r * d : ℝ)| + |(r - u * (x + 1)) * d| := abs_add_le _ _
      _ ≤ (u - d) + d := add_le_add hcheck (abs_raised_mul_sub hr d)
      _ = 2 * u * (1 / 2) := by ring
  exact le_of_mul_le_mul_left hscaled (by positivity)

end Exact

/-- R41 for one entry, with the scaled sine of its index, over the reals and on integers. -/
theorem entryRounded_iff_exact {d r e : ℕ} {x : ℝ} (hmod : d % 4 = 0) (hmax : d ≤ 65532)
    (hr : |(r : ℝ) - sineUnit * (x + 1)| ≤ 1) (hmem : r ∈ raisedSines) :
    entryRounded d r e = true ↔ |(e : ℝ) - (x + 1) / 2 * d| ≤ 1 / 2 := by
  rw [entryRounded_iff_abs]
  constructor
  · exact exact_of_check_le (by decide) hr
  · intro h
    obtain ⟨q, hq⟩ := exists_excludesTies hmem
    have hbelow := lt_abs_of_excludesTies hq hmod hmax (m := 2 * e - 1) (by simp)
    have habove := lt_abs_of_excludesTies hq hmod hmax (m := 2 * e + 1) (by simp)
    rw [sub_mul, one_mul, sub_right_comm] at hbelow
    rw [add_mul, one_mul, add_sub_right_comm] at habove
    exact abs_le_sub_of_far (check_le_of_exact hr h) hbelow habove

/-- R41 over the reals is the check, entry by entry. -/
theorem tableExact_iff_entries {p : Config.Params} (hmod : p.dutyMax % 4 = 0) (hmax : p.dutyMax ≤ 65532) :
    TableExact p ↔ EntriesOf p.dutyMax raisedSines p.table.toList := by
  rw [entriesOf_raisedSines_iff]
  exact forall_congr' fun i => (entryRounded_iff_exact hmod hmax (abs_raisedSine_sub i) (raisedSine_mem i)).symm

/-! ## The obligations of the table check -/

theorem dutyMax_of_paramsLegal {p : Config.Params} (h : paramsLegal p = true) :
    p.dutyMax % 4 = 0 ∧ 4 ≤ p.dutyMax ∧ p.dutyMax ≤ 65532 := by
  simp only [paramsLegal, Bool.and_eq_true, beq_iff_eq, decide_eq_true_eq] at h
  obtain ⟨⟨⟨⟨hmod, hge⟩, hmax⟩, -⟩, -⟩ := h
  exact ⟨hmod, hge, hmax⟩

/-- Settles O52: both say that every entry passes the check of an entry. -/
theorem tableCheckIsExact : Obligations.TableCheckIsExact := fun _ hmod hge hmax =>
  (wf_iff_entries (by omega) hmax).trans (tableExact_iff_entries hmod hmax).symm

/-- Settles O51: an admitted set passes the table check, and so does what elaboration keeps of one. -/
theorem admittedTablesAreRoundedSines : Obligations.AdmittedTablesAreRoundedSines := by
  have hlegal : ∀ p : Config.Params, paramsLegal p = true → TableExact p := fun p h =>
    have ⟨hmod, hge, hmax⟩ := dutyMax_of_paramsLegal h
    (tableCheckIsExact p hmod hge hmax).mp (wf_of_paramsLegal p h)
  refine ⟨hlegal, fun q s h => ?_⟩
  obtain ⟨-, helaborated, -⟩ := (Scope.elaborationAdmitsExactly q).2 s h
  exact hlegal s.cfg helaborated

/-- The default parameters are admitted. -/
theorem paramsLegal_defaultParams : paramsLegal Config.defaultParams = true := by
  rw [paramsLegal, defaultParams_wf]
  decide

/-- Settles O13: the default table is that of an admitted set. -/
theorem defaultTableIsRoundedSine : Obligations.DefaultTableIsRoundedSine :=
  admittedTablesAreRoundedSines.1 _ paramsLegal_defaultParams

/-- Settles O14: the properties of R43 are those of the table check, which the default table passes. -/
theorem defaultTableProperties : Obligations.DefaultTableProperties := by
  have hlength : Config.sineDegrees.length = 360 := Config.sineTable1000.size_toArray
  have hsum : Config.sineDegrees.sum = 180000 := by decide +kernel
  exact ⟨hlength, hsum, defaultParams_wf, paramsLegal_defaultParams⟩

/-! ## Reading the table -/

/-- Settles O9: the index of a phase count of one turn is (3 · P) div 2500. -/
theorem tableIndexWindow : Obligations.TableIndexWindow := by
  intro p i hp
  rw [tableIndex_eq p hp]
  omega

/-- R5: DUTY_W is the least width that holds DUTY_MAX. -/
theorem dutyWidth_spec {d : ℕ} (hd : d ≠ 0) : d < 2 ^ Config.dutyWidth d ∧ 2 ^ (Config.dutyWidth d - 1) ≤ d := by
  rw [Config.dutyWidth, if_neg hd, Nat.add_sub_cancel]
  exact ⟨Nat.lt_log2_self, Nat.log2_self_le hd⟩

/-- Settles O15: every entry lies in the range (R43), Apply keeps it, and DUTY_W is the width of DUTY_MAX. -/
theorem dutiesStayInRange : Obligations.DutiesStayInRange := by
  intro p f angle hlegal hangle
  obtain ⟨-, hge, -⟩ := dutyMax_of_paramsLegal hlegal
  have hbase : lookup p.table angle ≤ p.dutyMax := by
    obtain ⟨hlookup, -⟩ := lookup_of_lt p.table angle hangle
    rw [hlookup]
    exact romReadMod_le p (wf_of_paramsLegal p hlegal) _
  exact ⟨hbase, applyBoost_le _ _ _ _ hbase, dutyWidth_spec (by omega)⟩

/-! ## The constants -/

/-- Settles O33: the edge, a reset, the carrier command and every operation keep the constants. -/
theorem constantsNeverChange : Obligations.ConstantsNeverChange := by
  intro s t hstep
  obtain ⟨u, hu, hcfg⟩ := RegisterState.step_keeps (P := fun u => u.cfg = s.cfg) (s := s)
    (hedge := fun _ h => h) (hreset := fun _ h => h)
    (hcarrier := fun u h => (RegisterState.carrierPhase_cfg u).trans h)
    (hexec := fun i u h => by
      obtain ⟨v, hv, -⟩ := RegisterState.registerWriters i u
      exact ⟨v, hv, (RegisterState.exec_cfg hv).trans h⟩) rfl
  cases hstep.symm.trans hu
  exact hcfg

/-! ## The three entries of a triple -/

/-- R112: an angle c counts ahead, modulo a turn, has its index k entries ahead, modulo the table, if c counts are k
degrees. -/
theorem index_ahead (p : ℕ) {c k : ℕ} (h : 3 * c = 2500 * k) :
    3 * ((p + c) % 300000) / 2500 = (3 * p / 2500 + k) % 360 :=
  calc 3 * ((p + c) % 300000) / 2500
      = (3 * p + 2500 * k) % (2500 * 360) / 2500 := by rw [← Nat.mul_mod_mul_left, Nat.mul_add, h]
    _ = (3 * p / 2500 + k) % 360 := by rw [Nat.mod_mul_right_div_self, Nat.add_mul_div_left _ _ (by decide)]

theorem phaseDuty_eq_dutyAtIndex (s : State) {angle i : ℕ} (hangle : angle < 300000)
    (hi : 3 * angle / 2500 = i % 360) : phaseDuty s.cfg s.freq.toInt angle = dutyAtIndex s i := by
  rw [phaseDuty, dutyAtIndex, (lookup_of_lt s.cfg.table angle hangle).1, hi, romReadMod_mod]

/-- The triple of a phase of one turn reads the entries at three indices only. -/
theorem computeTriple_eq_nextTriple (s : State) :
    computeTriple s.cfg s.freq.toInt (advancedPhase s) = nextTriple s := by
  have hp : advancedPhase s < 300000 := Nat.mod_lt _ (by decide)
  simp only [computeTriple, nextTriple, Prod.mk.injEq]
  refine ⟨phaseDuty_eq_dutyAtIndex s hp (by rw [angleU]; omega), ?_, ?_⟩
  · rw [angleV_eq _ hp]
    exact phaseDuty_eq_dutyAtIndex s (Nat.mod_lt _ (by decide)) (index_ahead _ rfl)
  · rw [angleW_eq _ hp]
    exact phaseDuty_eq_dutyAtIndex s (Nat.mod_lt _ (by decide)) (index_ahead _ rfl)

/-! ## The operations, branch by branch -/

section Branches

variable {s : State}

theorem exec_setf_legal {arg : Arg} (h : 100 ≤ arg.toInt ∧ arg.toInt ≤ 50000) (s : State) :
    exec (.setf arg) s = .next ((s.setFrequency arg).respond .ok 0#32) :=
  (exec_setf_cases arg s).elim And.right fun h' => absurd h h'.1

theorem exec_setf_illegal {arg : Arg} (h : ¬(100 ≤ arg.toInt ∧ arg.toInt ≤ 50000)) (s : State) :
    exec (.setf arg) s = .next (s.raiseError .invalidFrequency) :=
  (exec_setf_cases arg s).elim (fun h' => absurd h'.1 h) And.right

theorem exec_start_running (h : s.run = true) (arg : Arg) : exec (.start arg) s = .next (s.respond .ok 0#32) := by
  simpa [h] using exec_start_cases arg s

theorem exec_start_stopped (h : s.run = false) (arg : Arg) :
    exec (.start arg) s = .next (((s.emit .enable).setRun true).respond .ok 0#32) := by
  simpa [h] using exec_start_cases arg s

theorem exec_stop_running (h : s.run = true) (arg : Arg) :
    exec (.stop arg) s = .next (((s.emit .disable).setRun false).respond .ok 0#32) := by
  simpa [h] using exec_stop_cases arg s

theorem exec_stop_stopped (h : s.run = false) (arg : Arg) : exec (.stop arg) s = .next (s.respond .ok 0#32) := by
  simpa [h] using exec_stop_cases arg s

theorem exec_update_stopped (h : s.run = false) : exec .update s = .next s := by
  simpa [h] using exec_update_cases s

theorem exec_update_running (h : s.run = true) (hphase : s.phase.toNat < 300000) :
    exec .update s = .next ((s.setPhase (advancedPhase s)).emitTriple (nextTriple s)) := by
  obtain ⟨hstopped, -⟩ | ⟨-, hexec⟩ := exec_update_cases s
  · exact absurd (h.symm.trans hstopped) (by decide)
  · rw [hexec, advance_eq _ _ hphase, ← advancedPhase, computeTriple_eq_nextTriple]

end Branches

/-! ## Another table in the machine -/

/-- The machine with another table. -/
def withTable (s : State) (tab : Config.SineTable) : State := { s with cfg := { s.cfg with table := tab } }

/-- The triple of the next UPDATE depends on the three entries it reads. -/
theorem nextTriple_withTable {s : State} {tab : Config.SineTable}
    (h : ∀ k ∈ [0, 120, 240],
      romReadMod tab (3 * advancedPhase s / 2500 + k) = romReadMod s.cfg.table (3 * advancedPhase s / 2500 + k)) :
    nextTriple (withTable s tab) = nextTriple s := by
  have hduty : ∀ k ∈ [0, 120, 240], dutyAtIndex (withTable s tab) (3 * advancedPhase s / 2500 + k) =
      dutyAtIndex s (3 * advancedPhase s / 2500 + k) := fun k hk =>
    congrArg (applyBoost · s.freq.toInt s.cfg.boostPercent s.cfg.dutyMax) (h k hk)
  exact Prod.ext (hduty 0 (by decide)) (Prod.ext (hduty 120 (by decide)) (hduty 240 (by decide)))

/-- Settles O34: the branch an operation takes does not depend on the table, and in each branch but a running UPDATE's
nor does what it does. -/
theorem onlyUpdateReadsThreeEntries : Obligations.OnlyUpdateReadsThreeEntries := by
  intro i s tab hphase hagree
  change ∃ t, exec i s = .next t ∧ exec i (withTable s tab) = .next { t with cfg := { s.cfg with table := tab } }
  cases i with
  | setf arg =>
    by_cases h : 100 ≤ arg.toInt ∧ arg.toInt ≤ 50000
    · exact ⟨_, exec_setf_legal h s, exec_setf_legal h (withTable s tab)⟩
    · exact ⟨_, exec_setf_illegal h s, exec_setf_illegal h (withTable s tab)⟩
  | start arg =>
    cases h : s.run with
    | true => exact ⟨_, exec_start_running h arg, exec_start_running (s := withTable s tab) h arg⟩
    | false => exact ⟨_, exec_start_stopped h arg, exec_start_stopped (s := withTable s tab) h arg⟩
  | stop arg =>
    cases h : s.run with
    | true => exact ⟨_, exec_stop_running h arg, exec_stop_running (s := withTable s tab) h arg⟩
    | false => exact ⟨_, exec_stop_stopped h arg, exec_stop_stopped (s := withTable s tab) h arg⟩
  | update =>
    cases h : s.run with
    | false => exact ⟨_, exec_update_stopped h, exec_update_stopped (s := withTable s tab) h⟩
    | true =>
      have h' := exec_update_running (s := withTable s tab) h hphase
      rw [nextTriple_withTable (hagree rfl h)] at h'
      exact ⟨_, exec_update_running h hphase, h'⟩
  | getf arg => exact ⟨_, RegisterState.exec_getf arg s, RegisterState.exec_getf arg (withTable s tab)⟩
  | isrun arg => exact ⟨_, RegisterState.exec_isrun arg s, RegisterState.exec_isrun arg (withTable s tab)⟩
  | illegalOp0 arg =>
    exact ⟨_, RegisterState.exec_illegalOp0 arg s, RegisterState.exec_illegalOp0 arg (withTable s tab)⟩
  | illegalOp6To7 op arg =>
    exact ⟨_, RegisterState.exec_illegalOp6To7 op arg s, RegisterState.exec_illegalOp6To7 op arg (withTable s tab)⟩
  | illegalOp8To15 op arg =>
    exact ⟨_, RegisterState.exec_illegalOp8To15 op arg s, RegisterState.exec_illegalOp8To15 op arg (withTable s tab)⟩

end Sys2Proof.Proofs.SineTable
end

section
/-! PROOFS. The family `30_encoding.md`: the decoder, the encoder and the match and mask table agree (R62 to R65, R70),
the response word (R66, R67), and what a command answers and a cycle emits (R61, R63, R68, R69). -/

namespace Sys2Proof.Proofs.Encoding

open Sys2Proof.Machine Sys2Proof.Safety

/-! ## The opcode map -/

/-- R64, R65 as a relation: the operation with this `op` and this `arg`, one constructor per row of the command port. -/
inductive OpcodeMap : Op → Arg → Instr → Prop
  | setf (arg : Arg) : OpcodeMap 0x1#4 arg (.setf arg)
  | start (arg : Arg) : OpcodeMap 0x2#4 arg (.start arg)
  | stop (arg : Arg) : OpcodeMap 0x3#4 arg (.stop arg)
  | getf (arg : Arg) : OpcodeMap 0x4#4 arg (.getf arg)
  | isrun (arg : Arg) : OpcodeMap 0x5#4 arg (.isrun arg)
  | illegalOp0 (arg : Arg) : OpcodeMap 0x0#4 arg (.illegalOp0 arg)
  | illegalOp6To7 {op : Op} (arg : Arg) (h : opIn6To7 op = true) : OpcodeMap op arg (.illegalOp6To7 op arg)
  | illegalOp8To15 {op : Op} (arg : Arg) (h : opIn8To15 op = true) : OpcodeMap op arg (.illegalOp8To15 op arg)

/-- R65: the last row holds every `op` that no other row holds. -/
theorem opIn8To15_iff : ∀ op : Op, opIn8To15 op = true ↔
    op ≠ 0x1#4 ∧ op ≠ 0x2#4 ∧ op ≠ 0x3#4 ∧ op ≠ 0x4#4 ∧ op ≠ 0x5#4 ∧ op ≠ 0x0#4 ∧ ¬ opIn6To7 op = true := by decide

/-- The decoder's choice is one of the map. -/
theorem opcodeMap_decodeFields (op : Op) (arg : Arg) : OpcodeMap op arg (decodeFields op arg) := by
  unfold decodeFields
  split_ifs with h1 h2 h3 h4 h5 h0 h67
  · exact h1 ▸ .setf arg
  · exact h2 ▸ .start arg
  · exact h3 ▸ .stop arg
  · exact h4 ▸ .getf arg
  · exact h5 ▸ .isrun arg
  · exact h0 ▸ .illegalOp0 arg
  · exact .illegalOp6To7 arg h67
  · exact .illegalOp8To15 arg ((opIn8To15_iff op).mpr ⟨h1, h2, h3, h4, h5, h0, h67⟩)

/-- The encoder inverts the map. -/
theorem encode_of_opcodeMap {op : Op} {arg : Arg} {i : Instr} (h : OpcodeMap op arg i) :
    encode i = .command (commandWord op arg) := by
  cases h <;> rfl

/-- The rows of the map are disjoint: the fields have no other operation than the decoder's. -/
theorem decodeFields_of_opcodeMap {op : Op} {arg : Arg} {i : Instr} (h : OpcodeMap op arg i) :
    decodeFields op arg = i := by
  cases h with
  | setf | start | stop | getf | isrun | illegalOp0 => rfl
  | illegalOp6To7 _ hop =>
    obtain rfl | rfl : op = 0x6#4 ∨ op = 0x7#4 := by simpa [opIn6To7] using hop
    · rfl
    · rfl
  | illegalOp8To15 _ hop =>
    obtain ⟨h1, h2, h3, h4, h5, h0, h67⟩ := (opIn8To15_iff op).mp hop
    simp [decodeFields, h1, h2, h3, h4, h5, h0, h67]

theorem wellFormed_of_opcodeMap {op : Op} {arg : Arg} {i : Instr} (h : OpcodeMap op arg i) : i.wellFormed = true := by
  cases h with
  | setf | start | stop | getf | isrun | illegalOp0 => rfl
  | illegalOp6To7 _ hop => exact hop
  | illegalOp8To15 _ hop => exact hop

/-- R62: decoding reads the two fields of the word. -/
theorem decodeCommand_commandWord (op : Op) (arg : Arg) : decodeCommand (commandWord op arg) = decodeFields op arg := by
  rw [decodeCommand, commandOp_commandWord, commandArg_commandWord]

theorem opcodeMap_decodeCommand (w : CommandWord) : OpcodeMap (commandOp w) (commandArg w) (decodeCommand w) :=
  opcodeMap_decodeFields _ _

theorem decode_encode_of_opcodeMap {op : Op} {arg : Arg} {i : Instr} (h : OpcodeMap op arg i) :
    decode (encode i) = .ok i := by
  rw [encode_of_opcodeMap h, decode, decodeCommand_commandWord, decodeFields_of_opcodeMap h]

theorem encode_decodeCommand (w : CommandWord) : encode (decodeCommand w) = .command w := by
  rw [encode_of_opcodeMap (opcodeMap_decodeCommand w), commandWord_fields]

/-- Settles O1: a well-formed operation is UPDATE or in the opcode map, which decoder and encoder both follow. -/
theorem decodeAndEncodeAgree : Obligations.DecodeAndEncodeAgree := by
  refine ⟨fun i hi => ?_, fun w => ⟨encode_decodeCommand w, wellFormed_of_opcodeMap (opcodeMap_decodeCommand w)⟩⟩
  cases i with
  | update => rfl
  | setf arg => exact decode_encode_of_opcodeMap (.setf arg)
  | start arg => exact decode_encode_of_opcodeMap (.start arg)
  | stop arg => exact decode_encode_of_opcodeMap (.stop arg)
  | getf arg => exact decode_encode_of_opcodeMap (.getf arg)
  | isrun arg => exact decode_encode_of_opcodeMap (.isrun arg)
  | illegalOp0 arg => exact decode_encode_of_opcodeMap (.illegalOp0 arg)
  | illegalOp6To7 op arg => exact decode_encode_of_opcodeMap (.illegalOp6To7 arg hi)
  | illegalOp8To15 op arg => exact decode_encode_of_opcodeMap (.illegalOp8To15 arg hi)

/-- Settles O3: each sample is a closed word, decoded by evaluation. -/
theorem sampleWordsDecode : Obligations.SampleWordsDecode := by
  unfold Obligations.SampleWordsDecode
  decide

/-! ## The match and mask table -/

/-- The row has this `op`: its mask and pattern, cut to bits 35:32. -/
def rowHasOp (op : Op) (r : OpcodeRow) : Bool := op &&& commandOp r.mask == commandOp r.pattern

/-- No row fixes a bit of the argument. -/
theorem row_fixes_op_only : ∀ r ∈ opcodeRows,
    commandWord (commandOp r.mask) 0#32 = r.mask ∧ commandWord (commandOp r.pattern) 0#32 = r.pattern := by decide

/-- R64: whether a row has a word depends on `op` alone. -/
theorem hasWord_eq_rowHasOp {r : OpcodeRow} (hr : r ∈ opcodeRows) (w : CommandWord) :
    r.hasWord w = rowHasOp (commandOp w) r := by
  obtain ⟨hmask, hpattern⟩ := row_fixes_op_only r hr
  have hand : w &&& r.mask = commandWord (commandOp w &&& commandOp r.mask) 0#32 := by
    conv_lhs => rw [← commandWord_fields w, ← hmask, commandWord, commandWord, BitVec.and_append, BitVec.and_zero]
    rfl
  rw [Bool.eq_iff_iff, OpcodeRow.hasWord, rowHasOp, beq_iff_eq, beq_iff_eq, hand]
  constructor
  · intro h
    rw [← h, commandOp_commandWord]
  · intro h
    rw [h, hpattern]

/-- The row of an operation is the only one with its `op`. -/
theorem row_unique_of_opcodeMap {op : Op} {arg : Arg} {i : Instr} (h : OpcodeMap op arg i) :
    ∃ r, opcodeRows.filter (rowHasOp op) = [r] ∧ r.mnemonic = i.mnemonic := by
  cases h with
  | setf | start | stop | getf | isrun | illegalOp0 => exact ⟨_, rfl, rfl⟩
  | illegalOp6To7 _ hop =>
    have hrow : ∀ o : Op, opIn6To7 o = true →
        opcodeRows.filter (rowHasOp o) = [⟨"ILLEGAL_OP6_7", 0xE00000000#36, 0x600000000#36⟩] := by decide
    exact ⟨_, hrow op hop, rfl⟩
  | illegalOp8To15 _ hop =>
    have hrow : ∀ o : Op, opIn8To15 o = true →
        opcodeRows.filter (rowHasOp o) = [⟨"ILLEGAL_OP8_15", 0x800000000#36, 0x800000000#36⟩] := by decide
    exact ⟨_, hrow op hop, rfl⟩

/-- Settles O2: the rows that have a word are the rows that have its `op`, and the map's row is the only one. -/
theorem opcodeRowsCoverEveryWordOnce : Obligations.OpcodeRowsCoverEveryWordOnce := by
  intro w
  rw [List.filter_congr fun r hr => hasWord_eq_rowHasOp hr w]
  exact row_unique_of_opcodeMap (opcodeMap_decodeCommand w)

/-! ## The response word -/

/-- R66: the fields of `{status, data}`. -/
theorem word_fields (r : Response) :
    r.word.extractLsb' 32 2 = r.status.code ∧ r.word.extractLsb' 0 32 = r.data := by
  constructor
  · exact BitVec.extractLsb'_append_eq_left
  · exact BitVec.extractLsb'_append_eq_right

/-- Settles O4: the fields of the word for every response, the code status by status. -/
theorem responseWordFields : Obligations.ResponseWordFields := by
  intro r
  obtain ⟨hstatus, hdata⟩ := word_fields r
  refine ⟨hstatus, hdata, ?_⟩
  cases r.status <;> decide

/-! ## What a command answers -/

/-- The status a command answers (R67): an error for SETF out of range (`60_exceptions.md` R141) and for the reserved
rows (R142). -/
def commandStatus : Instr → Status
  | .setf arg => if 100 ≤ arg.toInt ∧ arg.toInt ≤ 50000 then .ok else .invalidFrequency
  | .illegalOp0 _ | .illegalOp6To7 _ _ | .illegalOp8To15 _ _ => .illegalCommand
  | .start _ | .stop _ | .getf _ | .isrun _ | .update => .ok

/-- The driver command that goes with a change of RUN (R68, `44_controller_commands.md` R121, R122). -/
def switchCommand (on : Bool) : DriverCmd := if on then .enable else .disable

/-- What a command can do before it responds: emit nothing and leave RUN, or turn RUN over and emit the switch. -/
inductive BeforeResponse (s : State) : State → Prop
  | quiet {u : State} (hrun : u.run = s.run) (hcfg : u.cfg = s.cfg) (hpins : u.pins = s.pins)
      (htrace : u.trace = s.trace) : BeforeResponse s u
  | switched (on : Bool) (h : s.run = !on) : BeforeResponse s ((s.emit (switchCommand on)).setRun on)

theorem BeforeResponse.refl (s : State) : BeforeResponse s s := .quiet rfl rfl rfl rfl

/-- A command completes with a response, its last act; if the status is an error, its only act, with data 0. -/
def Answers (i : Instr) (s : State) : Prop :=
  ∃ u d, exec i s = .next (u.respond (commandStatus i) d) ∧ BeforeResponse s u ∧
    (commandStatus i ≠ .ok → d = 0#32 ∧ u = s)

theorem answers_of_ok {i : Instr} {s u : State} {d : BitVec 32} (hstatus : commandStatus i = .ok)
    (hexec : exec i s = .next (u.respond .ok d)) (hu : BeforeResponse s u) : Answers i s :=
  ⟨u, d, by rw [hexec, hstatus], hu, fun herror => absurd hstatus herror⟩

theorem answers_of_error {i : Instr} {s : State} (hexec : exec i s = .next (s.raiseError (commandStatus i))) :
    Answers i s :=
  ⟨s, 0#32, hexec, .refl s, fun _ => ⟨rfl, rfl⟩⟩

/-- Every operation of the command port answers (R61). -/
theorem exec_answers {i : Instr} (hi : i ≠ .update) (s : State) : Answers i s := by
  cases i with
  | setf arg =>
    by_cases h : 100 ≤ arg.toInt ∧ arg.toInt ≤ 50000
    · exact answers_of_ok (if_pos h) (SineTable.exec_setf_legal h s) (.quiet rfl rfl rfl rfl)
    · have hstatus : commandStatus (.setf arg) = .invalidFrequency := if_neg h
      exact answers_of_error (hstatus ▸ SineTable.exec_setf_illegal h s)
  | start arg =>
    cases h : s.run with
    | true => exact answers_of_ok rfl (SineTable.exec_start_running h arg) (.refl s)
    | false => exact answers_of_ok rfl (SineTable.exec_start_stopped h arg) (.switched true h)
  | stop arg =>
    cases h : s.run with
    | true => exact answers_of_ok rfl (SineTable.exec_stop_running h arg) (.switched false h)
    | false => exact answers_of_ok rfl (SineTable.exec_stop_stopped h arg) (.refl s)
  | getf arg => exact answers_of_ok rfl (RegisterState.exec_getf arg s) (.refl s)
  | isrun arg => exact answers_of_ok rfl (RegisterState.exec_isrun arg s) (.refl s)
  | update => exact absurd rfl hi
  | illegalOp0 arg => exact answers_of_error (RegisterState.exec_illegalOp0 arg s)
  | illegalOp6To7 op arg => exact answers_of_error (RegisterState.exec_illegalOp6To7 op arg s)
  | illegalOp8To15 op arg => exact answers_of_error (RegisterState.exec_illegalOp8To15 op arg s)

theorem ne_update_of_opcodeMap {op : Op} {arg : Arg} {i : Instr} (h : OpcodeMap op arg i) : i ≠ .update := by
  rintro rfl
  cases h

/-- R70: UPDATE has no command word. -/
theorem decodeCommand_ne_update (w : CommandWord) : decodeCommand w ≠ .update :=
  ne_update_of_opcodeMap (opcodeMap_decodeCommand w)

/-! ## Which command word answers which status -/

theorem op_of_opIn6To7 : ∀ op : Op, opIn6To7 op = true → op ≠ 0x1#4 ∧ 6 ≤ op.toNat := by decide

theorem op_of_opIn8To15 : ∀ op : Op, opIn8To15 op = true → op ≠ 0x1#4 ∧ 6 ≤ op.toNat := by decide

theorem commandStatus_setf_eq_invalidFrequency_iff (arg : Arg) :
    commandStatus (.setf arg) = .invalidFrequency ↔ arg.toInt < 100 ∨ 50000 < arg.toInt := by
  rw [commandStatus]
  split_ifs with h
  · simp only [false_iff]
    omega
  · simp only [true_iff]
    omega

theorem commandStatus_setf_ne_illegalCommand (arg : Arg) : commandStatus (.setf arg) ≠ .illegalCommand := by
  rw [commandStatus]
  split_ifs <;> decide

theorem invalidFrequency_iff_of_opcodeMap {op : Op} {arg : Arg} {i : Instr} (h : OpcodeMap op arg i) :
    commandStatus i = .invalidFrequency ↔ op = 0x1#4 ∧ (arg.toInt < 100 ∨ 50000 < arg.toInt) := by
  cases h with
  | setf => simp [commandStatus_setf_eq_invalidFrequency_iff]
  | start | stop | getf | isrun | illegalOp0 => simp [commandStatus]
  | illegalOp6To7 _ hop => simp [commandStatus, (op_of_opIn6To7 op hop).1]
  | illegalOp8To15 _ hop => simp [commandStatus, (op_of_opIn8To15 op hop).1]

theorem illegalCommand_iff_of_opcodeMap {op : Op} {arg : Arg} {i : Instr} (h : OpcodeMap op arg i) :
    commandStatus i = .illegalCommand ↔ op = 0x0#4 ∨ 6 ≤ op.toNat := by
  cases h with
  | setf => simp [commandStatus_setf_ne_illegalCommand]
  | start | stop | getf | isrun | illegalOp0 => simp [commandStatus]
  | illegalOp6To7 _ hop => simp [commandStatus, (op_of_opIn6To7 op hop).2]
  | illegalOp8To15 _ hop => simp [commandStatus, (op_of_opIn8To15 op hop).2]

/-! ## The driver commands and the responses of a trace -/

@[simp] theorem driverCommands_append (l m : List Output) :
    driverCommands (l ++ m) = driverCommands l ++ driverCommands m := List.filterMap_append

@[simp] theorem driverCommands_driver (c : DriverCmd) : driverCommands [.driver c] = [c] := rfl

@[simp] theorem driverCommands_response (r : Response) : driverCommands [.response r] = [] := rfl

@[simp] theorem responses_append (l m : List Output) : responses (l ++ m) = responses l ++ responses m :=
  List.filterMap_append

@[simp] theorem responses_driver (c : DriverCmd) : responses [.driver c] = [] := rfl

@[simp] theorem responses_response (r : Response) : responses [.response r] = [r] := rfl

theorem BeforeResponse.responses_eq {s u : State} (h : BeforeResponse s u) : responses u.trace = responses s.trace := by
  cases h with
  | quiet _ _ _ htrace => rw [htrace]
  | switched on _ => simp

/-- Settles O30: the command answers, and its status is that of its row. -/
theorem errorsAreExactlyTwo : Obligations.ErrorsAreExactlyTwo := by
  intro w s
  have hmap := opcodeMap_decodeCommand w
  obtain ⟨u, d, hexec, hu, herror⟩ := exec_answers (decodeCommand_ne_update w) s
  refine ⟨_, ⟨commandStatus (decodeCommand w), d⟩, hexec, ?responses, ?last, invalidFrequency_iff_of_opcodeMap hmap,
    illegalCommand_iff_of_opcodeMap hmap, ?noEffect⟩
  case responses => simp [hu.responses_eq]
  case last => simp
  case noEffect =>
    intro hne
    obtain ⟨rfl, rfl⟩ := herror hne
    exact ⟨rfl, by simp, rfl⟩

/-! ## Ignored arguments -/

/-- R63: the operation of an `op` other than SETF's does the same with any other argument. -/
theorem exec_decodeFields_of_opcodeMap {op : Op} {a : Arg} {i : Instr} (h : OpcodeMap op a i) (hop : op ≠ 0x1#4)
    (b : Arg) (s : State) : exec i s = exec (decodeFields op b) s := by
  cases h with
  | setf => exact absurd rfl hop
  | start | stop | getf | isrun | illegalOp0 => rfl
  | illegalOp6To7 _ hrow =>
    rw [decodeFields_of_opcodeMap (.illegalOp6To7 b hrow)]
    rfl
  | illegalOp8To15 _ hrow =>
    rw [decodeFields_of_opcodeMap (.illegalOp8To15 b hrow)]
    rfl

/-- Settles O29: the two words have the same `op`, and so the same row of the map. -/
theorem ignoredArgumentsHaveNoEffect : Obligations.IgnoredArgumentsHaveNoEffect := by
  intro op a b s hop
  change exec (decodeCommand (commandWord op a)) s = exec (decodeCommand (commandWord op b)) s
  rw [decodeCommand_commandWord, decodeCommand_commandWord]
  exact exec_decodeFields_of_opcodeMap (opcodeMap_decodeFields op a) hop b s

/-! ## Legal traces -/

section TraceLegal

variable {s t : State}

theorem traceLegal_of_eq (hs : TraceLegal s) (hcfg : t.cfg = s.cfg) (htrace : t.trace = s.trace) : TraceLegal t := by
  rwa [TraceLegal, hcfg, htrace]

theorem traceLegal_emit (hs : TraceLegal s) {c : DriverCmd} (hc : CommandLegal s.cfg c) : TraceLegal (s.emit c) := by
  intro c' hc'
  rw [State.emit_trace, driverCommands_append, driverCommands_driver, List.mem_append, List.mem_singleton] at hc'
  obtain hold | rfl := hc'
  · exact hs c' hold
  · exact hc

theorem traceLegal_respond (hs : TraceLegal s) (st : Status) (d : BitVec 32) : TraceLegal (s.respond st d) := by
  intro c hc
  rw [State.respond_trace, driverCommands_append, driverCommands_response, List.append_nil] at hc
  exact hs c hc

theorem commandLegal_switchCommand (p : Config.Params) (on : Bool) : CommandLegal p (switchCommand on) := by
  cases on <;> trivial

theorem BeforeResponse.traceLegal (h : BeforeResponse s t) (hs : TraceLegal s) : TraceLegal t := by
  cases h with
  | quiet _ hcfg _ htrace => exact traceLegal_of_eq hs hcfg htrace
  | switched on _ => exact traceLegal_of_eq (traceLegal_emit hs (commandLegal_switchCommand _ on)) rfl rfl

theorem carrierPhase_keeps_traceLegal (hs : TraceLegal s) : TraceLegal (carrierPhase s) := by
  obtain ⟨-, h⟩ | ⟨-, h⟩ := carrierPhase_cases s
  · rw [h]
    exact traceLegal_of_eq (traceLegal_emit (c := .setCarrierFrequency s.cfg.carrierHz) hs rfl) rfl rfl
  · rwa [h]

/-- `20_memory.md` R43 (d): the entry at any index is in the range, and the boost keeps it there. -/
theorem dutyAtIndex_le (he : Elaborated s) (i : Nat) : dutyAtIndex s i ≤ s.cfg.dutyMax :=
  applyBoost_le _ _ _ _ (romReadMod_le s.cfg (wf_of_paramsLegal s.cfg he) i)

theorem exec_update_keeps_traceLegal (hinv : Inv s) (he : Elaborated s) (hs : TraceLegal s) :
    ∃ t, exec .update s = .next t ∧ TraceLegal t := by
  cases h : s.run with
  | false => exact ⟨s, SineTable.exec_update_stopped h, hs⟩
  | true =>
    have hphase : TraceLegal (s.setPhase (advancedPhase s)) := traceLegal_of_eq hs rfl rfl
    exact ⟨_, SineTable.exec_update_running h hinv.phase_lt,
      traceLegal_emit hphase ⟨dutyAtIndex_le he _, dutyAtIndex_le he _, dutyAtIndex_le he _⟩⟩

theorem exec_keeps_traceLegal (i : Instr) (hinv : Inv s) (he : Elaborated s) (hs : TraceLegal s) :
    ∃ t, exec i s = .next t ∧ TraceLegal t := by
  by_cases hi : i = .update
  · subst hi
    exact exec_update_keeps_traceLegal hinv he hs
  · obtain ⟨u, d, hexec, hu, -⟩ := exec_answers hi s
    exact ⟨_, hexec, traceLegal_respond (hu.traceLegal hs) _ d⟩

end TraceLegal

/-- What a step keeps: R29's registers, the admitted constants and R68's payload ranges. The first two are what keeps
the duties of an UPDATE in their range. -/
structure LegalMachine (s : State) : Prop where
  inv : Inv s
  elaborated : Elaborated s
  traceLegal : TraceLegal s

theorem exec_keeps_legalMachine (i : Instr) {s : State} (h : LegalMachine s) :
    ∃ t, exec i s = .next t ∧ LegalMachine t := by
  obtain ⟨hinv, he, hs⟩ := h
  obtain ⟨t, hexec, ht⟩ := exec_keeps_traceLegal i hinv he hs
  obtain ⟨t', hexec', hinv'⟩ := RegisterState.exec_keeps_inv i hinv
  cases hexec.symm.trans hexec'
  exact ⟨t, hexec, hinv', by rwa [Elaborated, RegisterState.exec_cfg hexec], ht⟩

theorem carrierPhase_keeps_legalMachine {s : State} (h : LegalMachine s) : LegalMachine (carrierPhase s) where
  inv := RegisterState.carrierPhase_keeps_inv h.inv
  elaborated := by
    rw [Elaborated, RegisterState.carrierPhase_cfg]
    exact h.elaborated
  traceLegal := carrierPhase_keeps_traceLegal h.traceLegal

theorem step_keeps_legalMachine {s : State} (h : LegalMachine s) : ∃ t, step s = .next t ∧ LegalMachine t := by
  refine RegisterState.step_keeps ?edge ?reset ?carrier ?exec h
  case edge =>
    exact fun s ⟨hinv, he, hs⟩ => ⟨RegisterState.inv_of_registers_eq hinv rfl rfl rfl, he, traceLegal_of_eq hs rfl rfl⟩
  case reset => exact fun s ⟨_, he, hs⟩ => ⟨RegisterState.inv_resetRegisters s, he, traceLegal_of_eq hs rfl rfl⟩
  case carrier => exact fun _ => carrierPhase_keeps_legalMachine
  case exec => exact fun i _ => exec_keeps_legalMachine i

/-- Settles O45: the one state a step leads to is the legal machine found. -/
theorem stepKeepsTraceLegal : Obligations.StepKeepsTraceLegal := by
  intro s t hinv he hs hstep
  obtain ⟨u, hu, hlegal⟩ := step_keeps_legalMachine ⟨hinv, he, hs⟩
  cases hstep.symm.trans hu
  exact ⟨hlegal.traceLegal, hlegal.elaborated⟩

/-! ## The outputs of a cycle -/

/-- Since the trace was `tr` the machine has emitted `o`, and its ports present `o`. -/
structure Presents (tr : List Output) (o : CycleOutput) (s : State) : Prop where
  trace_eq : s.trace = tr ++ o.trace
  pins_eq : s.pins = o.pins

section Presents

variable {tr : List Output} {s t : State} {c : Option (BitVec 32)} {d : Option (Nat × Nat × Nat)} {w : Option Bool}

/-- The edge lowers every strobe (R61). -/
theorem presents_acceptEdge (s : State) : Presents s.trace ⟨none, none, none, none⟩ s.acceptEdge :=
  ⟨(List.append_nil _).symm, rfl⟩

theorem Presents.of_eq {o : CycleOutput} (h : Presents tr o s) (hpins : t.pins = s.pins) (htrace : t.trace = s.trace) :
    Presents tr o t :=
  ⟨htrace.trans h.trace_eq, hpins.trans h.pins_eq⟩

/-! ### One rule per output, each after those R69 puts before it -/

theorem Presents.carrier (h : Presents tr ⟨none, none, none, none⟩ s) (hz : BitVec 32) :
    Presents tr ⟨some hz, none, none, none⟩ (s.emit (.setCarrierFrequency hz)) where
  trace_eq := by simp [h.trace_eq, CycleOutput.trace]
  pins_eq := by rw [State.emit_pins, h.pins_eq]; rfl

theorem Presents.duties (h : Presents tr ⟨c, none, none, none⟩ s) (x : Nat × Nat × Nat) :
    Presents tr ⟨c, some x, none, none⟩ (s.emitTriple x) where
  trace_eq := by simp [h.trace_eq, CycleOutput.trace]
  pins_eq := by rw [State.emitTriple_pins, h.pins_eq]; rfl

theorem Presents.switch (h : Presents tr ⟨c, d, none, none⟩ s) (on : Bool) :
    Presents tr ⟨c, d, some on, none⟩ (s.emit (switchCommand on)) where
  trace_eq := by simp [h.trace_eq, CycleOutput.trace, switchCommand]
  pins_eq := by
    rw [State.emit_pins, h.pins_eq]
    cases on <;> rfl

theorem Presents.response (h : Presents tr ⟨c, d, w, none⟩ s) (r : Response) :
    Presents tr ⟨c, d, w, some r⟩ (s.respond r.status r.data) where
  trace_eq := by simp [h.trace_eq, CycleOutput.trace]
  pins_eq := by rw [State.respond_pins, h.pins_eq]; rfl

/-- The switch a change of RUN from `before` to `after` goes with. -/
def switchOf (before after : Bool) : Option Bool := if after = before then none else some after

theorem BeforeResponse.presents (hu : BeforeResponse s t) (h : Presents tr ⟨c, d, none, none⟩ s) :
    Presents tr ⟨c, d, switchOf s.run t.run, none⟩ t := by
  cases hu with
  | quiet hrun _ hpins htrace =>
    rw [switchOf, if_pos hrun]
    exact h.of_eq hpins htrace
  | switched on hrun =>
    rw [State.setRun_run, switchOf, if_neg (by simp [hrun])]
    exact (h.switch on).of_eq rfl rfl

end Presents

/-! ## The parts of a cycle -/

section Phases

variable {tr : List Output} {s : State} {c : Option (BitVec 32)} {d : Option (Nat × Nat × Nat)}

theorem exec_inputs {i : Instr} {s t : State} (h : exec i s = .next t) : t.inputs = s.inputs := by
  obtain ⟨u, hu, -, -, -, -, -, hinputs⟩ := RegisterState.registerWriters i s
  cases h.symm.trans hu
  exact hinputs

theorem carrierPhase_run (s : State) : (carrierPhase s).run = s.run := by
  obtain ⟨-, h⟩ | ⟨-, h⟩ := carrierPhase_cases s
  · rw [h]
    rfl
  · rw [h]

theorem carrierPhase_inputs (s : State) : (carrierPhase s).inputs = s.inputs := by
  obtain ⟨-, h⟩ | ⟨-, h⟩ := carrierPhase_cases s
  · rw [h]
    rfl
  · rw [h]

theorem carrierPhase_presents (h : Presents tr ⟨none, none, none, none⟩ s) :
    Presents tr ⟨if s.carrierPending then some s.cfg.carrierHz else none, none, none, none⟩ (carrierPhase s) := by
  obtain ⟨hp, hc⟩ | ⟨hp, hc⟩ := carrierPhase_cases s
  · rw [hc, hp]
    exact (h.carrier s.cfg.carrierHz).of_eq rfl rfl
  · rw [hc, hp]
    exact h

/-- The tick's part of a cycle: `SetOutputs` exactly if Running, RUN and the input cycles left as they were. -/
theorem tickPhase_presents (tick : Bool) (h : Presents tr ⟨c, none, none, none⟩ s) :
    ∃ t d, tickPhase tick s = .next t ∧ Presents tr ⟨c, d, none, none⟩ t ∧ d.isSome = (tick && s.run) ∧
      t.run = s.run ∧ t.inputs = s.inputs := by
  cases tick with
  | false => exact ⟨s, none, tickPhase_false s, h, rfl, rfl, rfl⟩
  | true =>
    rw [tickPhase_true, Bool.true_and]
    obtain ⟨hrun, hexec⟩ | ⟨hrun, hexec⟩ := exec_update_cases s
    · exact ⟨s, none, hexec, h, hrun.symm, rfl, rfl⟩
    · have hphase := h.of_eq (t := s.setPhase (advance s.phase.toNat s.inc.toNat)) rfl rfl
      exact ⟨_, _, hexec, hphase.duties _, hrun.symm, rfl, rfl⟩

/-- The command's part of a cycle: the switch exactly as RUN changes, then the one response. -/
theorem commandPhase_presents (valid : Bool) (word : CommandWord) (h : Presents tr ⟨c, d, none, none⟩ s) :
    ∃ t r, commandPhase valid word s = .next t ∧ Presents tr ⟨c, d, switchOf s.run t.run, r⟩ t ∧
      r.isSome = valid ∧ t.inputs = s.inputs := by
  cases valid with
  | false =>
    refine ⟨s, none, commandPhase_false word s, ?_, rfl, rfl⟩
    rwa [switchOf, if_pos rfl]
  | true =>
    obtain ⟨u, x, hexec, hu, -⟩ := exec_answers (decodeCommand_ne_update word) s
    exact ⟨_, _, hexec, (hu.presents h).response ⟨commandStatus (decodeCommand word), x⟩, rfl, exec_inputs hexec⟩

end Phases

/-- Settles O40: the edge, the carrier command, the tick and the command each present their own output after those
before it. -/
theorem cycleOutputsInOrder : Obligations.CycleOutputsInOrder := by
  intro s p rest hin
  have hedge : s.acceptEdge.inputs = rest := by rw [State.acceptEdge_inputs, hin, List.tail_cons]
  cases hrst : p.rst with
  | true =>
    obtain ⟨htrace, hpins⟩ := presents_acceptEdge s
    exact ⟨_, ⟨none, none, none, none⟩, step_of_rst s p rest hin hrst, hedge, htrace, hpins, fun _ => rfl,
      fun h => absurd h (by decide)⟩
  | false =>
    obtain ⟨u, d, hu, hushows, hd, hurun, huinputs⟩ :=
      tickPhase_presents p.tick (carrierPhase_presents (presents_acceptEdge s))
    obtain ⟨t, r, ht, ⟨htrace, hpins⟩, hr, htinputs⟩ := commandPhase_presents p.cmdValid p.cmd hushows
    rw [carrierPhase_run, State.acceptEdge_run] at hd hurun
    rw [hurun] at htrace hpins
    refine ⟨t, _, ?step, ?inputs, htrace, hpins, fun h => absurd h (by decide), fun _ => ⟨rfl, hd, hr, rfl⟩⟩
    case step => rw [step_of_not_rst s p rest hin hrst, hu, andThen_next, ht]
    case inputs => rw [htinputs, huinputs, carrierPhase_inputs, hedge]

end Sys2Proof.Proofs.Encoding
end

section
/-! PROOFS. The family `40_sine_lookup.md`: the integer index of Lookup is the floor of the source's real formula (R81,
with the angle of a phase count from `00_scope.md` R7). -/

namespace Sys2Proof.Proofs.SineLookup

open Sys2Proof.Machine

/-- R81: the source formula "with no π left and no rounding before the floor". -/
theorem angle_in_degrees (p : ℕ) :
    (2 * Real.pi * (p : ℝ) / 300000) * 360 / (2 * Real.pi) = ((3 * p : ℕ) : ℝ) / (2500 : ℕ) := by
  push_cast
  field_simp
  ring

/-- The floor of the real formula is the integer division of R81's pseudocode, for every phase count. -/
theorem floor_angle_in_degrees (p : ℕ) :
    ⌊(2 * Real.pi * (p : ℝ) / 300000) * 360 / (2 * Real.pi)⌋ = ((3 * p / 2500 : ℕ) : ℤ) := by
  rw [angle_in_degrees, Int.floor_div_natCast, Int.floor_natCast, Int.natCast_ediv]

/-- Settles O8: Lookup reads at (3 · P) div 2500, and that is the floor of the angle; 18° is the spec's example. -/
theorem lookupReadsFloorOfAngle : Obligations.LookupReadsFloorOfAngle := by
  refine ⟨fun t p hp => ?turn, ?example18⟩
  case turn =>
    obtain ⟨hread, hindex⟩ := lookup_of_lt t p hp
    exact ⟨hread, hindex, (floor_angle_in_degrees p).symm⟩
  case example18 =>
    obtain ⟨hread, -⟩ := lookup_of_lt Config.sineTable1000 15000 (by decide)
    rw [hread]
    rfl

end Sys2Proof.Proofs.SineLookup
end

section
/-! PROOFS. The family `41_voltage_boost.md`: R91's integers are R90's rational formula, and on duties up to DUTY_MAX
Apply is one clamped rounding (R93), whose monotonicity is that of the boost numerator. -/

namespace Sys2Proof.Proofs.VoltageBoost

open Sys2Proof.Machine Sys2Proof.Safety

/-! ## The rational form -/

/-- The unchanged branch of R90, in millihertz. -/
theorem ten_le_hertz_iff (f : ℤ) : (10 : ℚ) ≤ (f : ℚ) / 1000 ↔ 10000 ≤ f := by
  rw [le_div_iff₀ (by norm_num)]
  norm_num
  exact_mod_cast Iff.rfl

/-- R90's scaled duty with the half of its rounding added is, up to the knee, the quotient that R91 truncates. -/
theorem rationalBoost_eq (b : ℕ) {f : ℤ} (bp : ℕ) (hf : f ≤ 10000) :
    (b : ℚ) * (1 + (bp : ℚ) / 100 * (1 - (f : ℚ) / 1000 / 10)) + 1 / 2 =
      ((b * boostNumerator f bp + 500000 : ℕ) : ℚ) / (1000000 : ℕ) := by
  have hdist : (((10000 - f).toNat : ℕ) : ℚ) = 10000 - f := by
    exact_mod_cast congrArg (Int.cast (R := ℚ)) (Int.toNat_of_nonneg (sub_nonneg.mpr hf))
  rw [boostNumerator, Config.boostKnee]
  push_cast
  rw [hdist]
  ring

/-- Up to the knee the exact rounding of R90, a tie going up, is `boostRounded`. -/
theorem floor_rationalBoost (b : ℕ) {f : ℤ} (bp : ℕ) (hf : f ≤ 10000) :
    ⌊(b : ℚ) * (1 + (bp : ℚ) / 100 * (1 - (f : ℚ) / 1000 / 10)) + 1 / 2⌋ = (boostRounded b f bp : ℤ) := by
  rw [rationalBoost_eq b bp hf, Int.floor_div_natCast, Int.floor_natCast, boostRounded, Int.natCast_ediv]

/-- R90 and R91 are one function, for every operand. -/
theorem applyBoost_eq_applyRational (b : ℕ) (f : ℤ) (bp d : ℕ) :
    (applyBoost b f bp d : ℤ) = applyRational b f bp d := by
  simp only [applyRational, ten_le_hertz_iff]
  rcases applyBoost_cases b f bp d with ⟨hkept, happly⟩ | ⟨⟨hf, hbp⟩, happly⟩
  · rw [happly, if_pos hkept]
  · rw [happly, if_neg (by omega), floor_rationalBoost b bp hf.le, Nat.cast_min]
    rfl

/-- R91's branch below the knee, with the frequency a natural number. -/
theorem applyBoost_of_boosted {b f bp d : ℕ} (hf : f < 10000) (hbp : bp ≠ 0) :
    applyBoost b f bp d = min ((b * (1000000 + bp * (10000 - f)) + 500000) / 1000000) d := by
  rcases applyBoost_cases b f bp d with ⟨hkept, -⟩ | ⟨-, happly⟩
  · omega
  · have hdist : (10000 - (f : ℤ)).toNat = 10000 - f := by omega
    rw [happly, hdist]

/-- R91's unchanged branch, for any duty and clamp. -/
theorem applyBoost_of_kept {b f bp d : ℕ} (h : 10000 ≤ f ∨ bp = 0) : applyBoost b f bp d = b := by
  rcases applyBoost_cases b f bp d with ⟨-, happly⟩ | ⟨⟨hf, hbp⟩, -⟩
  · exact happly
  · omega

/-- Settles O10: the two branches of Apply against those of the rational form; 688 is R91's example. -/
theorem applyEqualsRationalForm : Obligations.ApplyEqualsRationalForm :=
  ⟨applyBoost_eq_applyRational, fun _ _ _ _ => applyBoost_of_boosted, fun _ _ _ _ => applyBoost_of_kept, by decide⟩

/-! ## Monotonicity -/

/-- The boost factor grows with the boost and falls with the frequency. -/
theorem boostNumerator_mono {f f' : ℤ} {bp bp' : ℕ} (hf : f' ≤ f) (hbp : bp ≤ bp') :
    boostNumerator f bp ≤ boostNumerator f' bp' :=
  Nat.add_le_add_left (Nat.mul_le_mul hbp (Int.toNat_le_toNat (by omega))) _

theorem boostRounded_mono {b b' : ℕ} {f f' : ℤ} {bp bp' : ℕ} (hb : b ≤ b') (hf : f' ≤ f) (hbp : bp ≤ bp') :
    boostRounded b f bp ≤ boostRounded b' f' bp' :=
  Nat.div_le_div_right (Nat.add_le_add_right (Nat.mul_le_mul hb (boostNumerator_mono hf hbp)) _)

/-- Where the boost factor is 1 the rounding is exact. -/
theorem boostRounded_of_kept (b : ℕ) {f : ℤ} {bp : ℕ} (h : 10000 ≤ f ∨ bp = 0) : boostRounded b f bp = b := by
  have hfactor : boostNumerator f bp = 1000000 := by
    rw [boostNumerator, Config.boostKnee]
    rcases h with hf | rfl
    · rw [Int.toNat_of_nonpos (by omega), Nat.mul_zero]
    · rw [Nat.zero_mul]
  rw [boostRounded, hfactor]
  omega

/-- On duties up to DUTY_MAX the unchanged branch is no exception: Apply is the clamped rounding on both branches. -/
theorem applyBoost_eq_min {b d : ℕ} (f : ℤ) (bp : ℕ) (hb : b ≤ d) :
    applyBoost b f bp d = min (boostRounded b f bp) d := by
  rcases applyBoost_cases b f bp d with ⟨hkept, happly⟩ | ⟨-, happly⟩
  · rw [happly, boostRounded_of_kept b hkept, min_eq_left hb]
  · exact happly

/-- R93 (b), the three arguments at once. -/
theorem applyBoost_mono {b b' d : ℕ} {f f' : ℤ} {bp bp' : ℕ} (hd : b' ≤ d) (hb : b ≤ b') (hf : f' ≤ f)
    (hbp : bp ≤ bp') : applyBoost b f bp d ≤ applyBoost b' f' bp' d := by
  rw [applyBoost_eq_min f bp (hb.trans hd), applyBoost_eq_min f' bp' hd]
  exact min_le_min_right d (boostRounded_mono hb hf hbp)

/-- R93 (a): a duty within the clamp is never lowered. -/
theorem le_applyBoost {b d : ℕ} (f : ℤ) (bp : ℕ) (hb : b ≤ d) : b ≤ applyBoost b f bp d := by
  rw [applyBoost_eq_min f bp hb]
  exact le_min (le_boostRounded b f bp) hb

/-- A zero duty stays zero at every frequency and boost. -/
theorem applyBoost_zero (f : ℤ) (bp d : ℕ) : applyBoost 0 f bp d = 0 := by
  rw [applyBoost_eq_min f bp (Nat.zero_le d), boostRounded, Nat.zero_mul]
  exact Nat.zero_min d

/-- Settles O11: the bounds, the fixed duties, and one instance of `applyBoost_mono` for each argument. -/
theorem applyIsMonotone : Obligations.ApplyIsMonotone := by
  intro b f bp d hd
  refine ⟨le_applyBoost f bp hd, applyBoost_le b f bp d hd, ?identity, fun b' hb => ?duty, fun f' hf => ?frequency,
    fun bp' hbp => ?boost⟩
  case identity =>
    rintro (hf | hbp | rfl)
    · exact applyBoost_of_kept (.inl hf)
    · exact applyBoost_of_kept (.inr hbp)
    · exact applyBoost_zero f bp d
  case duty => exact applyBoost_mono hd hb le_rfl le_rfl
  case frequency => exact applyBoost_mono hd le_rfl (Int.ofNat_le.mpr hf) le_rfl
  case boost => exact applyBoost_mono hd le_rfl le_rfl hbp

end Sys2Proof.Proofs.VoltageBoost
end

section
/-! PROOFS. The family `42_phase_accumulator.md`: Advance is addition modulo a turn (R101), and so any number of updates
has a closed form and a period (R103). -/

namespace Sys2Proof.Proofs.PhaseAccumulator

open Sys2Proof.Machine Sys2Proof.Safety

/-! ## Advance -/

/-- R101: from a phase of one turn by a legal increment. -/
theorem advance_eq_mod {p i : ℕ} (hp : p < 300000) (hi : i ≤ 150000) : advance p i = (p + i) % 300000 :=
  subtractTurn_eq_mod _ (by omega)

/-- Settles O5: the conditional subtraction is Advance's definition, the rest follows from the reduction. -/
theorem advanceIsSumModuloTurn : Obligations.AdvanceIsSumModuloTurn := by
  refine ⟨fun p i hp _ hi => ?ranges, by decide, by decide, by decide⟩
  have hmod := advance_eq_mod hp hi
  exact ⟨rfl, by omega, hmod, by omega⟩

/-- R103: k additions modulo a turn are one addition of k increments. -/
theorem iterate_advance {p i : ℕ} (hp : p < 300000) (hi : i ≤ 150000) (k : ℕ) :
    (fun q => advance q i)^[k] p = (p + i * k) % 300000 := by
  induction k with
  | zero => exact (Nat.mod_eq_of_lt hp).symm
  | succ k ih =>
    rw [Function.iterate_succ_apply', ih, advance_eq_mod (Nat.mod_lt _ (by decide)) hi, Nat.mod_add_mod, Nat.mul_succ,
      Nat.add_assoc]

/-! ## The period -/

/-- The multiples of f modulo n have the period n / gcd(n, f), the order of f in ℤ/n. -/
theorem dvd_mul_iff_div_gcd_dvd {n : ℕ} (hn : n ≠ 0) (f k : ℕ) : n ∣ f * k ↔ n / n.gcd f ∣ k := by
  rw [← ZMod.addOrderOf_coe f hn, addOrderOf_dvd_iff_nsmul_eq_zero, nsmul_eq_mul, ← Nat.cast_mul,
    ZMod.natCast_eq_zero_iff, Nat.mul_comm]

/-- Settles O48: k updates bring the phase back exactly if their 3 · F · k counts are whole turns, that is, if 100000
divides F · k. -/
theorem phasePeriod : Obligations.PhasePeriod := by
  intro f p k _ hf hp
  rw [iterate_advance hp (by omega), ← dvd_mul_iff_div_gcd_dvd (by decide)]
  calc (p + 3 * f * k) % 300000 = p
      ↔ p + 3 * f * k ≡ p [MOD 300000] := by rw [Nat.ModEq, Nat.mod_eq_of_lt hp]
    _ ↔ 3 * 100000 ∣ 3 * (f * k) := by rw [Nat.add_modEq_left_iff, Nat.mul_assoc]
    _ ↔ 100000 ∣ f * k := Nat.mul_dvd_mul_iff_left (by decide)

/-! ## One tick -/

/-- The state after a cycle with a tick and nothing else, taken while Running with no carrier command owed. -/
def afterTick (s : State) : State := (s.acceptEdge.setPhase (advancedPhase s)).emitTriple (nextTriple s)

theorem step_tick_running {s : State} {rest : List InPins} (hin : s.inputs = tickOnly :: rest)
    (hcarrier : s.carrierPending = false) (hrun : s.run = true) (hphase : s.phase.toNat < 300000) :
    step s = .next (afterTick s) := by
  obtain ⟨howed, -⟩ | ⟨-, hquiet⟩ := carrierPhase_cases s.acceptEdge
  · exact absurd (hcarrier.symm.trans howed) (by decide)
  · have hupdate : exec .update s.acceptEdge = .next (afterTick s) :=
      SineTable.exec_update_running (s := s.acceptEdge) hrun hphase
    rw [step_of_not_rst s tickOnly rest hin rfl, hquiet, tickOnly, tickPhase_true, hupdate, andThen_next,
      commandPhase_false]

theorem toNat_phase_afterTick (s : State) : (afterTick s).phase.toNat = (s.phase.toNat + s.inc.toNat) % 300000 :=
  toNat_ofNat_phase _ (Nat.mod_lt _ (by decide))

/-- R23 with FREQ as the natural number it is on its legal range. -/
theorem toNat_inc_of_inv {s : State} (h : Inv s) : s.inc.toNat = 3 * s.freq.toNat := by
  have hinc := h.inc_eq
  have hmin := h.freq_min
  rw [BitVec.toInt_eq_toNat_cond] at hinc hmin
  omega

/-! ## Any number of ticks -/

/-- What k ticks taken while Running do: PHASE advances by k increments, a triple is forwarded for each, and k input
cycles are used up; nothing else of the state of `s` but the ports differs in `t`. -/
structure AfterTicks (s : State) (k : ℕ) (t : State) : Prop where
  phase_eq : t.phase.toNat = (s.phase.toNat + s.inc.toNat * k) % 300000
  freq_eq : t.freq = s.freq
  inc_eq : t.inc = s.inc
  run_eq : t.run = s.run
  carrierPending_eq : t.carrierPending = s.carrierPending
  cfg_eq : t.cfg = s.cfg
  inputs_eq : t.inputs = s.inputs.drop k
  triples : ∃ outs, t.trace = s.trace ++ outs ∧ outs.length = k ∧ ∀ o ∈ outs, ∃ u v w, o = .driver (.setOutputs u v w)

theorem afterTicks_zero {s : State} (hphase : s.phase.toNat < 300000) : AfterTicks s 0 s where
  phase_eq := (Nat.mod_eq_of_lt hphase).symm
  freq_eq := rfl
  inc_eq := rfl
  run_eq := rfl
  carrierPending_eq := rfl
  cfg_eq := rfl
  inputs_eq := rfl
  triples := ⟨[], by simp⟩

/-- One tick and then k ticks are k + 1 ticks. -/
theorem AfterTicks.succ {s t : State} {k : ℕ} (h : AfterTicks (afterTick s) k t) : AfterTicks s (k + 1) t where
  phase_eq := by
    rw [h.phase_eq, toNat_phase_afterTick, Nat.mod_add_mod, Nat.mul_succ, Nat.add_assoc, Nat.add_comm s.inc.toNat]
    rfl
  freq_eq := h.freq_eq
  inc_eq := h.inc_eq
  run_eq := h.run_eq
  carrierPending_eq := h.carrierPending_eq
  cfg_eq := h.cfg_eq
  inputs_eq := h.inputs_eq.trans List.drop_tail
  triples := by
    obtain ⟨outs, htrace, hlength, htriples⟩ := h.triples
    refine ⟨.driver (.setOutputs _ _ _) :: outs, htrace.trans (List.append_assoc ..), by simp [hlength], ?_⟩
    exact List.forall_mem_cons.mpr ⟨⟨_, _, _, rfl⟩, htriples⟩

/-- A run over k input cycles with a tick and nothing else, taken while Running with no carrier command owed. -/
theorem run_ticks {rest : List InPins} (k : ℕ) {s : State} (hinv : Inv s) (hrun : s.run = true)
    (hcarrier : s.carrierPending = false) (hin : s.inputs = List.replicate k tickOnly ++ rest) :
    ∃ t : State, Host.Core.run Sys2Proof.core k s = .next t ∧ AfterTicks s k t := by
  induction k generalizing s with
  | zero => exact ⟨s, run_zero s, afterTicks_zero hinv.phase_lt⟩
  | succ k ih =>
    have hstep := step_tick_running hin hcarrier hrun hinv.phase_lt
    have hinv' : Inv (afterTick s) := RegisterState.stepKeepsRegisterRules _ _ hinv hstep
    have hin' : (afterTick s).inputs = List.replicate k tickOnly ++ rest := congrArg List.tail hin
    obtain ⟨t, ht, hafter⟩ := ih hinv' hrun hcarrier hin'
    exact ⟨t, (run_succ k s _ hstep).trans ht, hafter.succ⟩

/-- Settles O47: the run over the k ticks, with INC read as 3 · F. -/
theorem updatesClosedForm : Obligations.UpdatesClosedForm := by
  intro s k rest hinv hrun hcarrier hin
  obtain ⟨t, ht, hafter⟩ := run_ticks k hinv hrun hcarrier hin
  obtain ⟨outs, htrace, hlength, htriples⟩ := hafter.triples
  have hphase : t.phase.toNat = (s.phase.toNat + 3 * s.freq.toNat * k) % 300000 := by
    rw [hafter.phase_eq, toNat_inc_of_inv hinv]
  have hinputs : t.inputs = rest := by
    rw [hafter.inputs_eq, hin, List.drop_left' List.length_replicate]
  exact ⟨t, outs, ht, hphase, hafter.freq_eq, hafter.inc_eq, hafter.run_eq.trans hrun,
    hafter.carrierPending_eq.trans hcarrier, hafter.cfg_eq, hinputs, htrace, hlength, htriples⟩

end Sys2Proof.Proofs.PhaseAccumulator
end

section
/-! PROOFS. The family `43_duty_mapper.md`: Wrap is reduction modulo a turn (R111), and so the three output angles are
exact thirds of a turn apart, and their table indices exact thirds of the table (R112). -/

namespace Sys2Proof.Proofs.DutyMapper

open Sys2Proof.Machine

/-! ## Wrap -/

/-- Settles O6: the conditional subtraction is Wrap's definition, and subtracts at most one turn on R111's domain. -/
theorem wrapIsReductionModuloTurn : Obligations.WrapIsReductionModuloTurn := by
  refine ⟨fun x hx => ⟨rfl, subtractTurn_eq_mod x (by omega)⟩, fun p hp => ⟨rfl, ?argumentV, rfl, ?argumentW⟩⟩
  case argumentV => rw [Config.offsetV]; omega
  case argumentW => rw [Config.offsetW]; omega

/-! ## The three angles -/

theorem angleV_lt {p : ℕ} (hp : p < 300000) : angleV p < 300000 := by
  rw [angleV_eq p hp]
  exact Nat.mod_lt _ (by decide)

theorem angleW_lt {p : ℕ} (hp : p < 300000) : angleW p < 300000 := by
  rw [angleW_eq p hp]
  exact Nat.mod_lt _ (by decide)

/-- R112: W follows V as V follows U. -/
theorem angleW_eq_third_after_angleV {p : ℕ} (hp : p < 300000) : angleW p = (angleV p + 100000) % 300000 := by
  rw [angleW_eq p hp, angleV_eq p hp]
  omega

/-- The difference, modulo a turn, of an angle and the angle c counts ahead of it, with a turn added before the
subtraction so that it is exact on the natural numbers. -/
theorem difference_of_ahead {a c : ℕ} (ha : a < 300000) (hc : c < 300000) :
    ((a + c) % 300000 + 300000 - a) % 300000 = c := by
  obtain hlt | hge := Nat.lt_or_ge (a + c) 300000
  · have hsame : (a + c) % 300000 = a + c := Nat.mod_eq_of_lt hlt
    omega
  · have hturn : (a + c) % 300000 = a + c - 300000 := by omega
    omega

/-- The table index of the angle c counts ahead is k entries ahead if c counts are k degrees. -/
theorem tableIndex_ahead {p c k : ℕ} (hp : p < 300000) (h : 3 * c = 2500 * k) :
    tableIndex ((p + c) % 300000) = (tableIndex p + k) % 360 := by
  rw [tableIndex_eq _ (Nat.mod_lt _ (by decide)), tableIndex_eq p hp]
  exact SineTable.index_ahead p h

/-- Settles O7: V is 100000 counts ahead of U, W 200000 ahead of U and 100000 ahead of V, and 100000 counts are 120
degrees. -/
theorem outputAnglesAreExactThirds : Obligations.OutputAnglesAreExactThirds := by
  intro p hp
  refine ⟨?angleVU, ?angleWU, ?angleWV, angleV_lt hp, angleW_lt hp, ?indexV, ?indexW⟩
  case angleVU => rw [angleV_eq p hp]; exact difference_of_ahead hp (by decide)
  case angleWU => rw [angleW_eq p hp]; exact difference_of_ahead hp (by decide)
  case angleWV =>
    rw [angleW_eq_third_after_angleV hp]
    exact difference_of_ahead (angleV_lt hp) (by decide)
  case indexV => rw [angleV_eq p hp]; exact tableIndex_ahead hp rfl
  case indexW => rw [angleW_eq p hp]; exact tableIndex_ahead hp rfl

end Sys2Proof.Proofs.DutyMapper
end

section
/-! PROOFS. The family `44_controller_commands.md`: the operations of the command port and the tick as whole next states
(R120 to R126), the transition table of RUN (R127), and the operations a cycle runs (R128). -/

namespace Sys2Proof.Proofs.ControllerCommands

open Sys2Proof.Machine Sys2Proof.Safety

/-! ## What a response and a switch of RUN write -/

/-- R66: a response writes its word to the port and itself to the trace, and no register. -/
theorem respond_eq {st : Status} {d : BitVec 32} {word : ResponseWord} (hword : (Response.mk st d).word = word)
    (s : State) : s.respond st d =
      { s with pins := { s.pins with rsp := some word }, trace := s.trace ++ [.response ⟨st, d⟩] } := by
  subst hword
  rfl

/-- R121, R122: what a START or a STOP that changes RUN writes: the driver command goes before the response. -/
theorem switch_respond_eq (s : State) (c : DriverCmd) (on : Bool) : ((s.emit c).setRun on).respond .ok 0#32 =
    { s with
      run := on, pins := { s.pins.driveCommand c with rsp := some 0x000000000#34 },
      trace := s.trace ++ [.driver c, .response ⟨.ok, 0#32⟩] } := by
  rw [respond_eq (word := 0x000000000#34) rfl, State.setRun_trace, State.emit_trace, List.append_assoc]
  rfl

/-! ## SETF and GETF -/

/-- Settles O20: the two branches of SETF, and INC without loss on the legal range. -/
theorem setfWritesPairOrRejects : Obligations.SetfWritesPairOrRejects := by
  intro arg s
  refine ⟨fun hlegal => ⟨?pair, Scope.toNat_incrementOf arg (by omega) hlegal.2⟩, fun hillegal => ?reject⟩
  case pair =>
    rw [SineTable.exec_setf_legal hlegal, respond_eq (word := 0x000000000#34) rfl]
    rfl
  case reject =>
    rw [SineTable.exec_setf_illegal (by omega), State.raiseError, respond_eq (word := 0x100000000#34) rfl]

/-- What each operation of a list keeps, the list keeps, and it completes. -/
theorem execAll_keeps {P : State → Prop} {l : List Instr}
    (hexec : ∀ i ∈ l, ∀ s, P s → ∃ t, exec i s = .next t ∧ P t) {s : State} (hs : P s) :
    ∃ t, execAll l s = .next t ∧ P t := by
  induction l generalizing s with
  | nil => exact ⟨s, rfl, hs⟩
  | cons i l ih =>
    obtain ⟨hi, hl⟩ := List.forall_mem_cons.mp hexec
    obtain ⟨u, hu, pu⟩ := hi s hs
    obtain ⟨t, ht, pt⟩ := ih hl pu
    exact ⟨t, by rw [execAll, hu, andThen_next, ht], pt⟩

/-- R22: every operation but a SETF in range keeps FREQ. -/
theorem exec_keeps_freq {i : Instr} (hi : ∀ arg, i = .setf arg → arg.toInt < 100 ∨ 50000 < arg.toInt) (s : State) :
    ∃ t, exec i s = .next t ∧ t.freq = s.freq := by
  by_cases hsetf : ∃ arg, i = .setf arg
  · obtain ⟨arg, rfl⟩ := hsetf
    have hillegal := hi arg rfl
    exact ⟨_, SineTable.exec_setf_illegal (by omega) s, rfl⟩
  · obtain ⟨t, ht, hpair, -⟩ := RegisterState.registerWriters i s
    exact ⟨t, ht, of_not_not fun hfreq => hsetf ((hpair (.inl hfreq)).imp fun _ => And.left)⟩

/-- Settles O21: the successful SETF writes FREQ, the operations after it keep FREQ, and GETF answers it. -/
theorem getfAnswersLastSetf : Obligations.GetfAnswersLastSetf := by
  intro arg x l s hmin hmax hl
  have hkeeps : ∀ i ∈ l, ∀ s : State, s.freq = arg → ∃ t, exec i s = .next t ∧ t.freq = arg := by
    intro i hi s hs
    obtain ⟨t, ht, hfreq⟩ := exec_keeps_freq (fun a ha => hl a (ha ▸ hi)) s
    exact ⟨t, ht, hfreq.trans hs⟩
  obtain ⟨u, hu, hfreq⟩ := execAll_keeps hkeeps (s := (s.setFrequency arg).respond .ok 0#32) rfl
  exact ⟨_, u, _, SineTable.exec_setf_legal ⟨hmin, hmax⟩ s, hu, RegisterState.exec_getf x u, by simp [hfreq]⟩

/-- R29 (a) with FREQ read as the unsigned number GETF answers. -/
theorem toNat_freq_of_inv {s : State} (h : Inv s) : 100 ≤ s.freq.toNat ∧ s.freq.toNat ≤ 50000 := by
  have hmin := h.freq_min
  have hmax := h.freq_max
  rw [BitVec.toInt_eq_toNat_cond] at hmin hmax
  omega

/-- Settles O25: the one branch of GETF, and the legal range of the register it answers. -/
theorem getfAnswersFreq : Obligations.GetfAnswersFreq :=
  ⟨fun arg s => (RegisterState.exec_getf arg s).trans (congrArg _ (respond_eq rfl s)), fun _ => toNat_freq_of_inv, rfl⟩

/-! ## START, STOP and ISRUN -/

/-- Settles O22: the two branches of START. -/
theorem startEnablesOnce : Obligations.StartEnablesOnce := by
  refine fun arg s => ⟨fun hstopped => ?enables, fun hrunning => ?noop⟩
  case enables =>
    rw [SineTable.exec_start_stopped hstopped, switch_respond_eq]
    rfl
  case noop => rw [SineTable.exec_start_running hrunning, respond_eq (word := 0x000000000#34) rfl]

/-- Settles O23: the two branches of STOP. -/
theorem stopDisablesOnce : Obligations.StopDisablesOnce := by
  refine fun arg s => ⟨fun hrunning => ?disables, fun hstopped => ?noop⟩
  case disables =>
    rw [SineTable.exec_stop_running hrunning, switch_respond_eq]
    rfl
  case noop => rw [SineTable.exec_stop_stopped hstopped, respond_eq (word := 0x000000000#34) rfl]

/-- Settles O24: the first START leaves the machine Running, where the second only responds. -/
theorem startTwiceEnablesOnce : Obligations.StartTwiceEnablesOnce := by
  intro a b s
  cases hrun : s.run with
  | true =>
    have hagain := SineTable.exec_start_running (s := s.respond .ok 0#32) hrun b
    exact ⟨_, _, SineTable.exec_start_running hrun a, hagain, by simp [driverCommands], rfl, rfl, rfl, hrun⟩
  | false =>
    have hagain := SineTable.exec_start_running (s := ((s.emit .enable).setRun true).respond .ok 0#32) rfl b
    exact ⟨_, _, SineTable.exec_start_stopped hrun a, hagain, by simp [driverCommands], rfl, rfl, rfl, rfl⟩

theorem exec_isrun_of_run {s : State} {b : Bool} (hrun : s.run = b) (arg : Arg) :
    exec (.isrun arg) s = .next (s.respond .ok (runWord b)) := by
  rw [RegisterState.exec_isrun, hrun]

/-- Settles O26: the one branch of ISRUN, with `zext_32(RUN)` in both states of RUN. -/
theorem isrunAnswersRun : Obligations.IsrunAnswersRun := by
  refine ⟨fun arg s => ⟨fun hrunning => ?one, fun hstopped => ?zero⟩, rfl⟩
  case one => exact (exec_isrun_of_run hrunning arg).trans (congrArg _ (respond_eq rfl s))
  case zero => exact (exec_isrun_of_run hstopped arg).trans (congrArg _ (respond_eq rfl s))

/-! ## UPDATE -/

/-- Settles O27: the two branches of UPDATE; the 19 bits of PHASE hold the advanced count. -/
theorem updateAdvancesAndForwards : Obligations.UpdateAdvancesAndForwards := fun _ =>
  ⟨SineTable.exec_update_stopped, fun hrun hphase =>
    ⟨SineTable.exec_update_running hrun hphase, toNat_ofNat_phase _ (Nat.mod_lt _ (by decide))⟩⟩

/-! ## The reserved operations -/

/-- R142: an operation that answers IllegalCommand does nothing else. -/
theorem exec_of_illegalCommand {i : Instr} (hi : Encoding.commandStatus i = .illegalCommand) (s : State) :
    exec i s = .next (s.raiseError .illegalCommand) := by
  have hcommand : i ≠ .update := by
    rintro rfl
    exact absurd hi (by decide)
  obtain ⟨u, d, hexec, -, herror⟩ := Encoding.exec_answers hcommand s
  rw [hi] at hexec herror
  obtain ⟨rfl, rfl⟩ := herror (by decide)
  exact hexec

/-- Settles O28: the three rows and every word with a reserved `op` have the status IllegalCommand. -/
theorem reservedOpsAnswerIllegalCommand : Obligations.ReservedOpsAnswerIllegalCommand := by
  intro i s hi
  have hstatus : Encoding.commandStatus i = .illegalCommand := by
    obtain ⟨arg, rfl⟩ | ⟨op, arg, rfl⟩ | ⟨op, arg, rfl⟩ | ⟨w, rfl, hop⟩ := hi
    · rfl
    · rfl
    · rfl
    · exact (Encoding.illegalCommand_iff_of_opcodeMap (Encoding.opcodeMap_decodeCommand w)).mpr
        (hop.imp_left BitVec.eq_of_toNat_eq)
  rw [exec_of_illegalCommand hstatus, State.raiseError, respond_eq (word := 0x200000000#34) rfl]

/-! ## The transition table -/

/-- Settles O32: the rows of the table are the branches of the operations; the reset's row is a cycle with `rst`. -/
theorem runTransitionTable : Obligations.RunTransitionTable := by
  refine ⟨fun i s => ?events, fun s p rest hin hrst => ⟨_, step_of_rst s p rest hin hrst, rfl, rfl⟩⟩
  cases i with
  | start arg =>
    cases h : s.run with
    | true => exact ⟨_, _, SineTable.exec_start_running h arg, rfl, h, rfl⟩
    | false => exact ⟨_, _, SineTable.exec_start_stopped h arg, List.append_assoc .., rfl, rfl⟩
  | stop arg =>
    cases h : s.run with
    | true => exact ⟨_, _, SineTable.exec_stop_running h arg, List.append_assoc .., rfl, rfl⟩
    | false => exact ⟨_, _, SineTable.exec_stop_stopped h arg, rfl, h, rfl⟩
  | update =>
    obtain ⟨hrun, h⟩ | ⟨hrun, h⟩ := exec_update_cases s
    · exact ⟨s, [], h, (List.append_nil _).symm, rfl, by simp [hrun, driverCommands]⟩
    · exact ⟨_, _, h, rfl, rfl, by simp [hrun]⟩
  | setf arg =>
    obtain ⟨-, h⟩ | ⟨-, h⟩ := exec_setf_cases arg s
    · exact ⟨_, _, h, rfl, rfl, rfl⟩
    · exact ⟨_, _, h, rfl, rfl, rfl⟩
  | getf arg => exact ⟨_, _, RegisterState.exec_getf arg s, rfl, rfl, rfl⟩
  | isrun arg => exact ⟨_, _, RegisterState.exec_isrun arg s, rfl, rfl, rfl⟩
  | illegalOp0 arg => exact ⟨_, _, RegisterState.exec_illegalOp0 arg s, rfl, rfl, rfl⟩
  | illegalOp6To7 op arg => exact ⟨_, _, RegisterState.exec_illegalOp6To7 op arg s, rfl, rfl, rfl⟩
  | illegalOp8To15 op arg => exact ⟨_, _, RegisterState.exec_illegalOp8To15 op arg s, rfl, rfl, rfl⟩

/-! ## The operations of a cycle -/

section Steps

variable {s : State} {p : InPins} {rest : List InPins}

/-- A cycle with no command is its tick alone. -/
theorem step_of_no_command (hin : s.inputs = p :: rest) (hrst : p.rst = false) (hvalid : p.cmdValid = false) :
    step s = tickPhase p.tick (carrierPhase s.acceptEdge) := by
  rw [step_of_not_rst s p rest hin hrst, hvalid]
  cases tickPhase p.tick (carrierPhase s.acceptEdge) with
  | next t => exact commandPhase_false p.cmd t
  | fault r => rfl
  | refused r => rfl

/-- A cycle with a command runs it on the state the tick leaves. -/
theorem step_of_command {t : State} (hin : s.inputs = p :: rest) (hrst : p.rst = false) (hvalid : p.cmdValid = true)
    (htick : tickPhase p.tick (carrierPhase s.acceptEdge) = .next t) : step s = exec (decodeCommand p.cmd) t := by
  rw [step_of_not_rst s p rest hin hrst, htick, andThen_next, hvalid, commandPhase_true]

theorem step_tickOnly (hin : s.inputs = tickOnly :: rest) : step s = exec .update (carrierPhase s.acceptEdge) :=
  step_of_no_command hin rfl rfl

theorem step_commandOnly {w : CommandWord} (hin : s.inputs = commandOnly w :: rest) :
    step s = exec (decodeCommand w) (carrierPhase s.acceptEdge) :=
  step_of_command (p := commandOnly w) hin rfl rfl (tickPhase_false _)

end Steps

/-- Settles O36: the four combinations of `tick` and `cmd_valid`. -/
theorem stepRunsDecodedOperations : Obligations.StepRunsDecodedOperations := by
  intro s p rest hin hrst
  refine ⟨fun htick hvalid i hi => ?command, fun htick hvalid => ?tick, fun htick hvalid i t hi ht => ?both,
    fun htick hvalid => ?quiet⟩
  case command =>
    cases hi
    exact step_of_command hin hrst hvalid (by rw [htick, tickPhase_false])
  case tick => rw [step_of_no_command hin hrst hvalid, htick, tickPhase_true]
  case both =>
    cases hi
    exact step_of_command hin hrst hvalid (by rw [htick, tickPhase_true, ht])
  case quiet => rw [step_of_no_command hin hrst hvalid, htick, tickPhase_false]

theorem carrierPhase_of_not_pending {s : State} (h : s.carrierPending = false) : carrierPhase s = s := by
  simpa [h] using carrierPhase_cases s

theorem carrierPhase_of_pending {s : State} (h : s.carrierPending = true) :
    carrierPhase s = (s.emit (.setCarrierFrequency s.cfg.carrierHz)).setCarrierPending false := by
  simpa [h] using carrierPhase_cases s

/-- Settles O38: with nothing owed and nothing presented only the edge is left of the cycle. -/
theorem idleCycleChangesNothing : Obligations.IdleCycleChangesNothing := by
  intro s howed
  have hquiet : carrierPhase s.acceptEdge = s.acceptEdge := carrierPhase_of_not_pending howed
  refine ⟨fun p rest hin hrst htick hvalid => ?idle, fun hin => ?past⟩
  case idle =>
    rw [step_of_no_command hin hrst hvalid, htick, tickPhase_false, hquiet, State.acceptEdge, hin, List.tail_cons]
  case past =>
    rw [step_of_no_inputs s hin, hquiet, State.acceptEdge, hin, List.tail_nil]

/-! ## A placed word -/

/-- The bits the decoder gives an operation for: the tick input's 1, or a word of the command port (log 9). -/
theorem decodeTableWord_cases {nbits w : ℕ} {i : Instr} (h : decodeTableWord nbits w = some i) :
    (nbits ≤ 8 ∧ w = 1 ∧ i = .update) ∨ (8 < nbits ∧ i = decodeCommand (BitVec.ofNat 36 w)) := by
  unfold decodeTableWord decodeBits portWord at h
  split_ifs at h with htick hbit hcommand
  · obtain rfl | rfl : w = 0 ∨ w = 1 := by omega
    · cases h
    · exact .inl ⟨htick, rfl, (Option.some.inj h).symm⟩
  · exact .inr ⟨by omega, (Option.some.inj h).symm⟩

theorem fetchPins_tick {nbits : ℕ} (h : nbits ≤ 8) : fetchPins nbits 1 = tickOnly := if_pos h

theorem fetchPins_command {nbits : ℕ} (h : 8 < nbits) (w : ℕ) : fetchPins nbits w = commandOnly (BitVec.ofNat 36 w) :=
  if_neg (by omega)

/-- Settles O37: the placed cycle is a tick or a command alone, as the decoder has it. -/
theorem placedWordRunsNext : Obligations.PlacedWordRunsNext := by
  intro s nbits w i h
  have hin := State.withFetchWord_inputs s nbits w
  obtain ⟨hbits, rfl, rfl⟩ | ⟨hbits, rfl⟩ := decodeTableWord_cases h
  · exact step_tickOnly (hin.trans (by rw [fetchPins_tick hbits]))
  · exact step_commandOnly (hin.trans (by rw [fetchPins_command hbits]))

/-! ## Other ports and other input cycles -/

/-- The machine with other output ports and other coming input cycles, neither of which an operation reads (log 2). -/
def withPorts (s : State) (o : OutPins) (ins : List InPins) : State := { s with pins := o, inputs := ins }

/-- The running branch of UPDATE from any PHASE, legal or not. -/
theorem exec_update_of_running {s : State} (h : s.run = true) : exec .update s =
    .next ((s.setPhase (advance s.phase.toNat s.inc.toNat)).emitTriple
      (computeTriple s.cfg s.freq.toInt (advance s.phase.toNat s.inc.toNat))) := by
  simpa [h] using exec_update_cases s

/-- An operation does the same whatever the ports hold and whatever is to come, those two apart. -/
theorem exec_withPorts (i : Instr) (s : State) (o : OutPins) (ins : List InPins) :
    ∃ t o', exec i s = .next t ∧ exec i (withPorts s o ins) = .next (withPorts t o' ins) := by
  cases i with
  | setf arg =>
    by_cases h : 100 ≤ arg.toInt ∧ arg.toInt ≤ 50000
    · exact ⟨_, _, SineTable.exec_setf_legal h s, SineTable.exec_setf_legal h (withPorts s o ins)⟩
    · exact ⟨_, _, SineTable.exec_setf_illegal h s, SineTable.exec_setf_illegal h (withPorts s o ins)⟩
  | start arg =>
    cases h : s.run with
    | true =>
      exact ⟨_, _, SineTable.exec_start_running h arg, SineTable.exec_start_running (s := withPorts s o ins) h arg⟩
    | false =>
      exact ⟨_, _, SineTable.exec_start_stopped h arg, SineTable.exec_start_stopped (s := withPorts s o ins) h arg⟩
  | stop arg =>
    cases h : s.run with
    | true =>
      exact ⟨_, _, SineTable.exec_stop_running h arg, SineTable.exec_stop_running (s := withPorts s o ins) h arg⟩
    | false =>
      exact ⟨_, _, SineTable.exec_stop_stopped h arg, SineTable.exec_stop_stopped (s := withPorts s o ins) h arg⟩
  | update =>
    cases h : s.run with
    | true => exact ⟨_, _, exec_update_of_running h, exec_update_of_running (s := withPorts s o ins) h⟩
    | false => exact ⟨_, _, SineTable.exec_update_stopped h, SineTable.exec_update_stopped (s := withPorts s o ins) h⟩
  | getf arg => exact ⟨_, _, RegisterState.exec_getf arg s, RegisterState.exec_getf arg (withPorts s o ins)⟩
  | isrun arg => exact ⟨_, _, RegisterState.exec_isrun arg s, RegisterState.exec_isrun arg (withPorts s o ins)⟩
  | illegalOp0 arg =>
    exact ⟨_, _, RegisterState.exec_illegalOp0 arg s, RegisterState.exec_illegalOp0 arg (withPorts s o ins)⟩
  | illegalOp6To7 op arg =>
    exact ⟨_, _, RegisterState.exec_illegalOp6To7 op arg s, RegisterState.exec_illegalOp6To7 op arg (withPorts s o ins)⟩
  | illegalOp8To15 op arg =>
    exact ⟨_, _, RegisterState.exec_illegalOp8To15 op arg s,
      RegisterState.exec_illegalOp8To15 op arg (withPorts s o ins)⟩

theorem carrierPhase_withPorts (s : State) (o : OutPins) (ins : List InPins) :
    ∃ o', carrierPhase (withPorts s o ins) = withPorts (carrierPhase s) o' ins := by
  cases h : s.carrierPending with
  | true =>
    rw [carrierPhase_of_pending h, carrierPhase_of_pending (s := withPorts s o ins) h]
    exact ⟨_, rfl⟩
  | false =>
    rw [carrierPhase_of_not_pending h, carrierPhase_of_not_pending (s := withPorts s o ins) h]
    exact ⟨_, rfl⟩

/-- R161: after the carrier phase nothing is owed. -/
theorem carrierPhase_carrierPending (s : State) : (carrierPhase s).carrierPending = false := by
  obtain ⟨-, h⟩ | ⟨hquiet, h⟩ := carrierPhase_cases s
  · rw [h]
    rfl
  · rw [h, hquiet]

theorem exec_carrierPending {i : Instr} {s t : State} (h : exec i s = .next t) :
    t.carrierPending = s.carrierPending := by
  obtain ⟨u, hu, -, -, -, hcarrier, -⟩ := RegisterState.registerWriters i s
  cases h.symm.trans hu
  exact hcarrier

/-! ### The three cycles of R128's last sentence -/

theorem step_withPorts_tick (s : State) (o : OutPins) (rest : List InPins) :
    step (withPorts s o (tickOnly :: rest)) = exec .update (carrierPhase (withPorts s OutPins.idle rest)) :=
  step_tickOnly rfl

theorem step_withPorts_command (s : State) (o : OutPins) (w : CommandWord) (rest : List InPins) :
    step (withPorts s o (commandOnly w :: rest)) =
      exec (decodeCommand w) (carrierPhase (withPorts s OutPins.idle rest)) :=
  step_commandOnly rfl

theorem step_withPorts_pair {s t : State} {rest : List InPins}
    (h : exec .update (carrierPhase (withPorts s OutPins.idle rest)) = .next t) (o : OutPins) (w : CommandWord) :
    step (withPorts s o (⟨false, true, true, w⟩ :: rest)) = exec (decodeCommand w) t :=
  step_of_command (p := ⟨false, true, true, w⟩) rfl rfl rfl h

/-- Settles O41: both sequences run the carrier command, UPDATE and the command, the second with other ports and other
input cycles; the edge between its two cycles changes nothing else, and no carrier command is owed by then. -/
theorem sameCyclePairIsTickThenCommand : Obligations.SameCyclePairIsTickThenCommand := by
  intro s w rest
  obtain ⟨o₁, hcarrier⟩ := carrierPhase_withPorts (withPorts s OutPins.idle rest) OutPins.idle (commandOnly w :: rest)
  obtain ⟨m, o₂, hupdate, hupdate'⟩ :=
    exec_withPorts .update (carrierPhase (withPorts s OutPins.idle rest)) o₁ (commandOnly w :: rest)
  obtain ⟨t, o₃, hcommand, hcommand'⟩ := exec_withPorts (decodeCommand w) m OutPins.idle rest
  have hquiet : m.carrierPending = false := (exec_carrierPending hupdate).trans (carrierPhase_carrierPending _)
  have hinputs : t.inputs = rest := by
    rw [Encoding.exec_inputs hcommand, Encoding.exec_inputs hupdate, Encoding.carrierPhase_inputs]
    rfl
  have hpair : step (withPorts s s.pins (⟨false, true, true, w⟩ :: rest)) = .next t :=
    (step_withPorts_pair hupdate _ w).trans hcommand
  have htick : step (withPorts s s.pins (tickOnly :: commandOnly w :: rest)) =
      .next (withPorts m o₂ (commandOnly w :: rest)) := by
    rw [step_withPorts_tick, ← hupdate', ← hcarrier]
    rfl
  have hthen : step (withPorts m o₂ (commandOnly w :: rest)) = .next (withPorts t o₃ rest) := by
    rw [step_withPorts_command, carrierPhase_of_not_pending (s := withPorts m OutPins.idle rest) hquiet, hcommand']
  exact ⟨t, _, _, hpair, htick, hthen, by rw [← hinputs]; rfl⟩

end Sys2Proof.Proofs.ControllerCommands
end

section
/-! PROOFS. The family `60_exceptions.md`: the step is total (R143), and no command sees PHASE (R152). -/

namespace Sys2Proof.Proofs.Exceptions

open Sys2Proof.Machine

/-! ## Totality -/

/-- R143: every operation leads to a next state, from any state. -/
theorem exec_total (i : Instr) (s : State) : ∃ t, exec i s = .next t := by
  obtain ⟨t, ht, -⟩ := RegisterState.registerWriters i s
  exact ⟨t, ht⟩

/-- Settles O39: with total operations a step is total, as what keeps the predicate that says nothing. -/
theorem stepNeverStops : Obligations.StepNeverStops := by
  intro s
  have hexec : ∀ i u, True → ∃ t, exec i u = .next t ∧ True := fun i u _ => by simpa using exec_total i u
  obtain ⟨t, ht, -⟩ := RegisterState.step_keeps (P := fun _ => True) (s := s)
    (fun _ _ => trivial) (fun _ _ => trivial) (fun _ _ => trivial) hexec trivial
  exact ⟨t, ht⟩

/-! ## Another PHASE in the machine -/

/-- The machine with another PHASE, legal or not. -/
def withPhase (s : State) (x : Phase) : State := { s with phase := x }

/-- An operation other than UPDATE does the same from another PHASE, PHASE apart: neither the branch it takes nor what
it writes and emits there reads PHASE. -/
theorem exec_withPhase {i : Instr} (hi : i ≠ .update) (s : State) (x : Phase) :
    ∃ t, exec i s = .next t ∧ exec i (withPhase s x) = .next (withPhase t x) := by
  cases i with
  | setf arg =>
    by_cases h : 100 ≤ arg.toInt ∧ arg.toInt ≤ 50000
    · exact ⟨_, SineTable.exec_setf_legal h s, SineTable.exec_setf_legal h (withPhase s x)⟩
    · exact ⟨_, SineTable.exec_setf_illegal h s, SineTable.exec_setf_illegal h (withPhase s x)⟩
  | start arg =>
    cases h : s.run with
    | true => exact ⟨_, SineTable.exec_start_running h arg, SineTable.exec_start_running (s := withPhase s x) h arg⟩
    | false => exact ⟨_, SineTable.exec_start_stopped h arg, SineTable.exec_start_stopped (s := withPhase s x) h arg⟩
  | stop arg =>
    cases h : s.run with
    | true => exact ⟨_, SineTable.exec_stop_running h arg, SineTable.exec_stop_running (s := withPhase s x) h arg⟩
    | false => exact ⟨_, SineTable.exec_stop_stopped h arg, SineTable.exec_stop_stopped (s := withPhase s x) h arg⟩
  | getf arg => exact ⟨_, RegisterState.exec_getf arg s, RegisterState.exec_getf arg (withPhase s x)⟩
  | isrun arg => exact ⟨_, RegisterState.exec_isrun arg s, RegisterState.exec_isrun arg (withPhase s x)⟩
  | update => exact absurd rfl hi
  | illegalOp0 | illegalOp6To7 | illegalOp8To15 =>
    exact ⟨_, ControllerCommands.exec_of_illegalCommand rfl s,
      ControllerCommands.exec_of_illegalCommand rfl (withPhase s x)⟩

/-- Settles O35: only UPDATE reads PHASE, and no command word decodes to it (R70). -/
theorem commandsDoNotSeePhase : Obligations.CommandsDoNotSeePhase := fun w s x =>
  exec_withPhase (Encoding.decodeCommand_ne_update w) s x

end Sys2Proof.Proofs.Exceptions
end

section
/-! PROOFS. The family `70_reset_and_hazards.md`: the reset cycle (R160), the carrier command owed since it (R161), and
PHASE held while Stopped (R170). -/

namespace Sys2Proof.Proofs.ResetAndHazards

open Sys2Proof.Machine Sys2Proof.Safety

/-! ## The reset cycle -/

/-- Settles O19: a reset cycle is its edge and the reset of the registers; a second one uses up one more input. -/
theorem resetCycleOverridesEverything : Obligations.ResetCycleOverridesEverything := by
  refine ⟨fun s p rest hin hrst => ?registers, fun s p q rest hin hp hq => ?held⟩
  case registers =>
    rw [step_of_rst s p rest hin hrst, State.acceptEdge, hin]
    rfl
  case held =>
    have hin' : s.acceptEdge.resetRegisters.inputs = q :: rest := congrArg List.tail hin
    refine ⟨_, _, step_of_rst s p _ hin hp, step_of_rst _ q rest hin' hq, ?_⟩
    rw [State.acceptEdge, hin']
    rfl

/-! ## The carrier commands of a stretch of the trace -/

@[simp] theorem carrierCommands_append (l m : List Output) :
    carrierCommands (l ++ m) = carrierCommands l ++ carrierCommands m := by
  simp [carrierCommands]

theorem carrierCommands_eq_nil_iff {l : List Output} :
    carrierCommands l = [] ↔ ∀ hz, .setCarrierFrequency hz ∉ driverCommands l := by
  rw [carrierCommands, List.filter_eq_nil_iff]
  constructor
  · exact fun h hz hmem => h _ hmem rfl
  · intro h c hmem
    cases c with
    | setCarrierFrequency hz => exact absurd hmem (h hz)
    | setOutputs | enable | disable => exact Bool.false_ne_true

/-- R161: no operation emits `SetCarrierFrequency`; the rows of R127's table are all it can emit. -/
theorem exec_emits_no_carrier (i : Instr) (s : State) :
    ∃ t outs, exec i s = .next t ∧ t.trace = s.trace ++ outs ∧ carrierCommands outs = [] := by
  obtain ⟨t, outs, ht, htrace, hrow⟩ := ControllerCommands.runTransitionTable.1 i s
  refine ⟨t, outs, ht, htrace, carrierCommands_eq_nil_iff.mpr fun hz => ?_⟩
  cases i with
  | start arg =>
    rw [hrow.2]
    split_ifs <;> simp
  | stop arg =>
    rw [hrow.2]
    split_ifs <;> simp
  | update =>
    obtain ⟨-, hemitted⟩ := hrow
    split_ifs at hemitted
    · obtain ⟨u, v, w, htriple⟩ := hemitted
      simp [htriple]
    · simp [hemitted]
  | setf | getf | isrun | illegalOp0 | illegalOp6To7 | illegalOp8To15 => simp [hrow.2]

/-! ## Cycles without a reset -/

section Cycles

variable {s t u : State}

/-- In a cycle without a reset, also one past the last input, what the operations keep of the state after the carrier
phase holds at the end of the cycle. -/
theorem step_keeps_of_not_rst {P : State → Prop} (hexec : ∀ i s, P s → ∃ t, exec i s = .next t ∧ P t)
    (hrst : s.nextPins.rst = false) (h : P (carrierPhase s.acceptEdge)) : ∃ t, step s = .next t ∧ P t := by
  obtain ⟨u, hu, pu⟩ := RegisterState.tickPhase_keeps hexec s.nextPins.tick h
  obtain ⟨t, ht, pt⟩ := RegisterState.commandPhase_keeps hexec s.nextPins.cmdValid s.nextPins.cmd pu
  refine ⟨t, ?_, pt⟩
  rw [step, runCycle, hrst, hu, andThen_next, ht]
  rfl

/-- From `s` to `t` no carrier command is emitted, and in `t` none is owed. -/
structure NoCarrierSince (s t : State) : Prop where
  not_owed : t.carrierPending = false
  emitted : ∃ outs, t.trace = s.trace ++ outs ∧ carrierCommands outs = []

theorem noCarrierSince_refl (h : s.carrierPending = false) : NoCarrierSince s s :=
  ⟨h, [], (List.append_nil _).symm, rfl⟩

theorem NoCarrierSince.trans (h : NoCarrierSince s t) (h' : NoCarrierSince t u) : NoCarrierSince s u := by
  obtain ⟨l, hl, hnone⟩ := h.emitted
  obtain ⟨m, hm, hnone'⟩ := h'.emitted
  exact ⟨h'.not_owed, l ++ m, by rw [hm, hl, List.append_assoc], by rw [carrierCommands_append, hnone, hnone']; rfl⟩

/-- With none owed, the edge and the carrier phase emit none. -/
theorem noCarrierSince_carrierPhase (h : s.carrierPending = false) : NoCarrierSince s (carrierPhase s.acceptEdge) := by
  rw [ControllerCommands.carrierPhase_of_not_pending (s := s.acceptEdge) h]
  exact ⟨h, [], (List.append_nil _).symm, rfl⟩

/-- Nor is one emitted or owed by an operation that follows. -/
theorem exec_keeps_noCarrierSince (i : Instr) (h : NoCarrierSince s t) :
    ∃ u, exec i t = .next u ∧ NoCarrierSince s u := by
  obtain ⟨u, outs, hu, htrace, hnone⟩ := exec_emits_no_carrier i t
  exact ⟨u, hu, h.trans ⟨(ControllerCommands.exec_carrierPending hu).trans h.not_owed, outs, htrace, hnone⟩⟩

/-- R161: a cycle without a reset emits no carrier command but that of its carrier phase, and uses up one input. -/
theorem step_noCarrierSince (hrst : s.nextPins.rst = false) :
    ∃ t, step s = .next t ∧ NoCarrierSince (carrierPhase s.acceptEdge) t ∧ t.inputs = s.inputs.tail := by
  refine step_keeps_of_not_rst (P := fun t => NoCarrierSince (carrierPhase s.acceptEdge) t ∧ t.inputs = s.inputs.tail)
    ?exec hrst ⟨?carrier, ?edge⟩
  case exec =>
    intro i t ⟨hquiet, hinputs⟩
    obtain ⟨u, hu, hquiet'⟩ := exec_keeps_noCarrierSince i hquiet
    exact ⟨u, hu, hquiet', (Encoding.exec_inputs hu).trans hinputs⟩
  case carrier => exact noCarrierSince_refl (ControllerCommands.carrierPhase_carrierPending _)
  case edge => exact Encoding.carrierPhase_inputs _

/-- With no reset among the next k + 1 input cycles the first has none; past the last input a cycle is idle (log 1). -/
theorem nextPins_rst_of_take {k : ℕ} (h : ∀ p ∈ s.inputs.take (k + 1), p.rst = false) : s.nextPins.rst = false := by
  rw [State.nextPins]
  cases hin : s.inputs with
  | nil => rfl
  | cons p rest => exact h p (by simp [hin])

/-- The inputs left after that first cycle hold no reset in the next k. -/
theorem tail_rst_of_take {l : List InPins} {k : ℕ} (h : ∀ p ∈ l.take (k + 1), p.rst = false) :
    ∀ p ∈ l.tail.take k, p.rst = false := by
  cases l with
  | nil => simp
  | cons q rest => exact fun p hp => h p (List.mem_cons_of_mem q hp)

/-- R161: a run of one cycle or more without a reset emits no carrier command but that of its first carrier phase: after
it none is owed to the carrier phases that follow. -/
theorem run_noCarrierSince (k : ℕ) (hrst : ∀ p ∈ s.inputs.take (k + 1), p.rst = false) :
    ∃ t : State, Host.Core.run Sys2Proof.core (k + 1) s = .next t ∧
      NoCarrierSince (carrierPhase s.acceptEdge) t := by
  induction k generalizing s with
  | zero =>
    obtain ⟨u, hu, hquiet, -⟩ := step_noCarrierSince (nextPins_rst_of_take hrst)
    exact ⟨u, (run_succ 0 s u hu).trans (run_zero u), hquiet⟩
  | succ k ih =>
    obtain ⟨u, hu, hquiet, hinputs⟩ := step_noCarrierSince (nextPins_rst_of_take hrst)
    obtain ⟨t, ht, hquiet'⟩ := ih (hinputs ▸ tail_rst_of_take hrst)
    have hidle : NoCarrierSince u (carrierPhase u.acceptEdge) := noCarrierSince_carrierPhase hquiet.not_owed
    exact ⟨t, (run_succ (k + 1) s u hu).trans ht, hquiet.trans (hidle.trans hquiet')⟩

end Cycles

/-- Settles O46: an owed carrier command is emitted by the first carrier phase, ahead of all the run then emits. -/
theorem carrierCommandOncePerReset : Obligations.CarrierCommandOncePerReset := by
  intro s k hrst
  cases k with
  | zero =>
    exact ⟨s, [], run_zero s, (List.append_nil _).symm, nofun, fun howed => ⟨howed, rfl⟩⟩
  | succ k =>
    obtain ⟨t, ht, hquiet, outs, htrace, hnone⟩ := run_noCarrierSince k hrst
    cases howed : s.carrierPending with
    | true =>
      rw [ControllerCommands.carrierPhase_of_pending (s := s.acceptEdge) howed] at htrace
      have honce : carrierCommands (.driver (.setCarrierFrequency s.cfg.carrierHz) :: outs) =
          [.setCarrierFrequency s.cfg.carrierHz] := congrArg (List.cons _) hnone
      exact ⟨t, _, ht, htrace.trans (List.append_assoc ..), fun _ _ => ⟨hquiet, honce, rfl⟩, nofun⟩
    | false =>
      rw [ControllerCommands.carrierPhase_of_not_pending (s := s.acceptEdge) howed] at htrace
      exact ⟨t, outs, ht, htrace, nofun, fun _ => ⟨hquiet, hnone⟩⟩

/-! ## PHASE across STOP and START -/

/-- The rest of a run after its first m steps. -/
theorem run_add {m : ℕ} {s t : State} (h : Host.Core.run Sys2Proof.core m s = .next t) (k : ℕ) :
    Host.Core.run Sys2Proof.core (m + k) s = Host.Core.run Sys2Proof.core k t := by
  induction m generalizing s with
  | zero =>
    cases (run_zero s).symm.trans h
    rw [Nat.zero_add]
  | succ m ih =>
    obtain ⟨u, hu⟩ := Exceptions.stepNeverStops s
    rw [Nat.succ_add, run_succ _ s u hu, ih ((run_succ m s u hu).symm.trans h)]

section Held

variable {s t u : State} {rest : List InPins}

/-- From `s` to `t` PHASE, FREQ and INC are held, and in `t` no carrier command is owed. -/
structure PhaseHeld (s t : State) : Prop where
  phase_eq : t.phase = s.phase
  freq_eq : t.freq = s.freq
  inc_eq : t.inc = s.inc
  not_owed : t.carrierPending = false

theorem PhaseHeld.trans (h : PhaseHeld s t) (h' : PhaseHeld t u) : PhaseHeld s u :=
  ⟨h'.phase_eq.trans h.phase_eq, h'.freq_eq.trans h.freq_eq, h'.inc_eq.trans h.inc_eq, h'.not_owed⟩

/-- The edge and the carrier phase hold PHASE, FREQ and INC and leave no carrier command owed. -/
theorem phaseHeld_carrierPhase (s : State) : PhaseHeld s (carrierPhase s.acceptEdge) := by
  obtain ⟨-, h⟩ | ⟨howed, h⟩ := carrierPhase_cases s.acceptEdge
  · rw [h]
    exact ⟨rfl, rfl, rfl, rfl⟩
  · rw [h]
    exact ⟨rfl, rfl, rfl, howed⟩

/-- R170: a cycle with a command other than SETF and nothing else holds PHASE, FREQ and INC. -/
theorem step_command_holds_phase {w : CommandWord} {i : Instr} (hin : s.inputs = commandOnly w :: rest)
    (hi : decodeCommand w = i) (hsetf : ∀ arg, i ≠ .setf arg) :
    ∃ t, step s = .next t ∧ exec i (carrierPhase s.acceptEdge) = .next t ∧ PhaseHeld s t ∧ t.inputs = rest := by
  subst hi
  have hcarried : PhaseHeld s (carrierPhase s.acceptEdge) := phaseHeld_carrierPhase s
  have hinputs : (carrierPhase s.acceptEdge).inputs = rest := by
    rw [Encoding.carrierPhase_inputs, State.acceptEdge_inputs, hin, List.tail_cons]
  obtain ⟨t, ht, hfreq, hinc, hphase⟩ := RegisterState.exec_keeps_freq_inc_phase (decodeCommand w)
    (carrierPhase s.acceptEdge) hsetf (Encoding.decodeCommand_ne_update w)
  have howed : t.carrierPending = false := (ControllerCommands.exec_carrierPending ht).trans hcarried.not_owed
  exact ⟨t, (ControllerCommands.step_commandOnly hin).trans ht, ht, hcarried.trans ⟨hphase, hfreq, hinc, howed⟩,
    (Encoding.exec_inputs ht).trans hinputs⟩

theorem exec_stop_run {arg : Arg} (h : exec (.stop arg) s = .next t) : t.run = false := by
  obtain ⟨u, -, hu, -, hrun, -⟩ := ControllerCommands.runTransitionTable.1 (.stop arg) s
  cases h.symm.trans hu
  exact hrun

theorem exec_start_run {arg : Arg} (h : exec (.start arg) s = .next t) : t.run = true := by
  obtain ⟨u, -, hu, -, hrun, -⟩ := ControllerCommands.runTransitionTable.1 (.start arg) s
  cases h.symm.trans hu
  exact hrun

/-- A cycle with the word of STOP leaves the machine Stopped. -/
theorem step_stop {a : Arg} (hin : s.inputs = commandOnly (0x3#4 ++ a) :: rest) :
    ∃ t, step s = .next t ∧ PhaseHeld s t ∧ t.run = false ∧ t.inputs = rest := by
  obtain ⟨t, ht, hexec, hheld, hinputs⟩ := step_command_holds_phase (i := .stop a) hin
    (Encoding.decodeCommand_commandWord 0x3#4 a) nofun
  exact ⟨t, ht, hheld, exec_stop_run hexec, hinputs⟩

/-- A cycle with the word of START leaves the machine Running. -/
theorem step_start {b : Arg} (hin : s.inputs = commandOnly (0x2#4 ++ b) :: rest) :
    ∃ t, step s = .next t ∧ PhaseHeld s t ∧ t.run = true ∧ t.inputs = rest := by
  obtain ⟨t, ht, hexec, hheld, hinputs⟩ := step_command_holds_phase (i := .start b) hin
    (Encoding.decodeCommand_commandWord 0x2#4 b) nofun
  exact ⟨t, ht, hheld, exec_start_run hexec, hinputs⟩

/-- While Stopped, with no carrier command owed, a tick is its edge alone. -/
theorem step_tick_stopped (hin : s.inputs = tickOnly :: rest) (howed : s.carrierPending = false)
    (hrun : s.run = false) : step s = .next s.acceptEdge := by
  rw [ControllerCommands.step_tickOnly hin, ControllerCommands.carrierPhase_of_not_pending (s := s.acceptEdge) howed]
  exact SineTable.exec_update_stopped (s := s.acceptEdge) hrun

/-- R170: any number of ticks while Stopped hold PHASE. -/
theorem run_ticks_stopped (m : ℕ) (hin : s.inputs = List.replicate m tickOnly ++ rest)
    (howed : s.carrierPending = false) (hrun : s.run = false) :
    ∃ t : State, Host.Core.run Sys2Proof.core m s = .next t ∧ PhaseHeld s t ∧ t.inputs = rest := by
  induction m generalizing s with
  | zero => exact ⟨s, run_zero s, ⟨rfl, rfl, rfl, howed⟩, hin⟩
  | succ m ih =>
    have hstep := step_tick_stopped hin howed hrun
    have hin' : s.acceptEdge.inputs = List.replicate m tickOnly ++ rest := congrArg List.tail hin
    obtain ⟨t, ht, hheld, hinputs⟩ := ih hin' howed hrun
    have hedge : PhaseHeld s s.acceptEdge := ⟨rfl, rfl, rfl, howed⟩
    exact ⟨t, (run_succ m s _ hstep).trans ht, hedge.trans hheld, hinputs⟩

end Held

/-- Settles O49: STOP, the ticks while Stopped and START hold PHASE and INC, and the last tick advances the one by the
other. -/
theorem phaseHeldAcrossStopStart : Obligations.PhaseHeldAcrossStopStart := by
  intro s m a b rest hinv _ hin
  obtain ⟨u, hstop, hheld, hstopped, hin⟩ := step_stop hin
  obtain ⟨v, hticks, hheld', hin⟩ := run_ticks_stopped m hin hheld.not_owed hstopped
  obtain ⟨w, hstart, hheld'', hrunning, hin⟩ := step_start hin
  obtain ⟨hphase, hfreq, hinc, howed⟩ := hheld.trans (hheld'.trans hheld'')
  have hupdate := PhaseAccumulator.step_tick_running hin howed hrunning (hphase ▸ hinv.phase_lt)
  refine ⟨PhaseAccumulator.afterTick w, ?run, ?advanced, hrunning, hfreq, hinc, congrArg List.tail hin⟩
  case run =>
    rw [run_succ (m + 2) s u hstop, run_add hticks 2, run_succ 1 v w hstart, run_succ 0 w _ hupdate, run_zero]
  case advanced => rw [PhaseAccumulator.toNat_phase_afterTick, hphase, hinc]

end Sys2Proof.Proofs.ResetAndHazards
end
